-- ==== Sys2Proof/Word.lean ====
section
/-! DEFINITION. The bit-vector types of the block (00_scope.md R7, R11): every value is an unsigned bit vector of stated
width. -/

namespace Sys2Proof

/-- A 64-bit block, key or operand (`BLOCK_W`, `KEY_W`). -/
abbrev Word := BitVec 64

/-- A 32-bit half-block (`HALF_W`). -/
abbrev Half := BitVec 32

/-- A 28-bit key half (`CD_W`). -/
abbrev KeyHalf := BitVec 28

/-- A 48-bit round key (`RK_W`). -/
abbrev RoundKey := BitVec 48

/-- Three like things, numbered 0 to 2: the key registers and the entries of the stage plan. -/
structure Triple (α : Type) where
  e0 : α
  e1 : α
  e2 : α
  deriving DecidableEq, Repr

/-- Entry `i`. -/
def Triple.get {α : Type} (t : Triple α) (i : Fin 3) : α :=
  match i with
  | 0 => t.e0
  | 1 => t.e1
  | 2 => t.e2

/-- `t` with entry `i` replaced by `x`. -/
def Triple.set {α : Type} (t : Triple α) (i : Fin 3) (x : α) : Triple α :=
  match i with
  | 0 => { t with e0 := x }
  | 1 => { t with e1 := x }
  | 2 => { t with e2 := x }

end Sys2Proof
end

