-- ==== Sys2Proof/Config.lean ====
section
/-! DEFINITION. The parameters of 00_scope.md R7. Fixed ones are definitions; `EDE3_POLARITY` is OPEN and has no value
here, and `HOST_BLOCK_PACKING` is OPEN and is an argument of whatever needs it. The widths are in Word.lean and the cipher
tables, which are constants of the hardware and no parameters, are in Machine/Tables.lean. -/

namespace Sys2Proof

/-- The two values of `EDE3_POLARITY` (44_triple_sequencer.md R183): `ede` encrypts Enc, Dec, Enc and `ded` encrypts Dec,
Enc, Dec. -/
inductive Polarity where
  | ede
  | ded
  deriving DecidableEq, Repr, Inhabited

/-- `EDE3_POLARITY` of the machine that `State.reset` describes: left open by the spec (92_eei_decisions.md D17), so it has
no body and nothing can be proved about which value it is. Every step reads the State field `ede3Polarity`, which starts
at this value and never changes. DESIGN CHOICE, safe (log 5). -/
opaque Config.ede3Polarity : Polarity

/-- `N_ROUNDS`. -/
abbrev Config.nRounds : Nat := 16

/-- `N_SBOX`. -/
abbrev Config.nSbox : Nat := 8

/-- `N_KEYREG`. -/
abbrev Config.nKeyReg : Nat := 3

/-- `TICKS_PER_ROUND`: one abstract engine tick per Feistel round. -/
abbrev Config.ticksPerRound : Nat := 1

/-- Eight bytes of the host's buffer, in buffer order. -/
structure Bytes8 where
  b0 : BitVec 8
  b1 : BitVec 8
  b2 : BitVec 8
  b3 : BitVec 8
  b4 : BitVec 8
  b5 : BitVec 8
  b6 : BitVec 8
  b7 : BitVec 8
  deriving DecidableEq, Repr

/-- One value of `HOST_BLOCK_PACKING` (20_memory.md R54, 92_eei_decisions.md D14): any bijection from eight buffer bytes to
one 64-bit word, chosen by the host. -/
structure BlockPacking where
  pack : Bytes8 → Word
  unpack : Word → Bytes8
  unpack_pack : ∀ bs, unpack (pack bs) = bs
  pack_unpack : ∀ w, pack (unpack w) = w

end Sys2Proof
end

