-- ==== Sys2Proof/Syntax.lean ====
section
/-! DEFINITION. Commands as syntax: sub-modes and compositions (00_scope.md R15), the 80-bit command transfer
(30_encoding.md R70), the fault causes (60_exceptions.md R221), and one constructor per row of spec/opcode_table.json. -/

namespace Sys2Proof

/-- Sub-mode `M` (30_encoding.md R76). -/
inductive SubMode where
  | dec
  | enc
  deriving DecidableEq, Repr

/-- The opposite sub-mode. -/
def SubMode.flip : SubMode → SubMode
  | .dec => .enc
  | .enc => .dec

/-- Composition `TD` (30_encoding.md R77). -/
inductive Comp where
  | single
  | eee3
  | ede3
  deriving DecidableEq, Repr

/-- One command transfer: `CMD[15:0]` and `OPND[63:0]` (30_encoding.md R70). -/
structure Transfer where
  cmd : BitVec 16
  opnd : Word
  deriving DecidableEq, Repr

/-- The fault causes of 60_exceptions.md R221, in the order of their codes 1 to 4. -/
inductive FaultCause where
  | illegalOp
  | badKeyIndex
  | badTdMode
  | reservedField
  deriving DecidableEq, Repr

/-- The commands. `opnd` is the ignored operand of 30_encoding.md R79, kept so that a transfer's bits are all in its
command. `k` is the raw field `CMD[1:0]` of LDKEY. -/
inductive Instr where
  | nop (opnd : Word)
  | ldkey (k : BitVec 2) (key : Word)
  | clrkey (opnd : Word)
  | cryptDSingle (block : Word)
  | cryptESingle (block : Word)
  | cryptDEee3 (block : Word)
  | cryptEEee3 (block : Word)
  | cryptDEde3 (block : Word)
  | cryptEEde3 (block : Word)
  | rdout (opnd : Word)
  | rdstat (opnd : Word)
  deriving DecidableEq, Repr

/-- The pseudo-instruction `encrypt` (30_encoding.md R87). -/
abbrev Instr.encrypt (block : Word) : Instr := .cryptESingle block

/-- The pseudo-instruction `decrypt` (30_encoding.md R87). -/
abbrev Instr.decrypt (block : Word) : Instr := .cryptDSingle block

/-- The pseudo-instruction `tdes.enc` (30_encoding.md R87). -/
abbrev Instr.tdesEnc (block : Word) : Instr := .cryptEEde3 block

/-- The pseudo-instruction `tdes.dec` (30_encoding.md R87). -/
abbrev Instr.tdesDec (block : Word) : Instr := .cryptDEde3 block

end Sys2Proof
end

