-- ==== Sys2Proof/WellFormed.lean ====
section
/-! DEFINITION. Which commands have an encoding among the 13 legal words of 30_encoding.md R84. -/

namespace Sys2Proof

/-- The one reserved field value an `Instr` can hold is LDKEY's `k = 3` (30_encoding.md R74, R83); every operand is legal
(R79). -/
def Instr.WellFormed : Instr → Bool
  | .nop _ => true
  | .ldkey k _ => k != 3
  | .clrkey _ => true
  | .cryptDSingle _ => true
  | .cryptESingle _ => true
  | .cryptDEee3 _ => true
  | .cryptEEee3 _ => true
  | .cryptDEde3 _ => true
  | .cryptEEde3 _ => true
  | .rdout _ => true
  | .rdstat _ => true

end Sys2Proof
end

