-- ==== Sys2Proof/Decode.lean ====
section
/-! DEFINITION. Decoding a command transfer, total and rejecting by the fault cause of 60_exceptions.md R221, and the
encoder written from the same field rules (30_encoding.md R70 to R85). -/

namespace Sys2Proof

/-- `OP = CMD[15:12]` (R72). -/
def opOf (cmd : BitVec 16) : BitVec 4 := cmd.extractLsb' 12 4

/-- `k = CMD[1:0]` of LDKEY (R74). -/
def kOf (cmd : BitVec 16) : BitVec 2 := cmd.extractLsb' 0 2

/-- `M = CMD[0]` of CRYPT (R75). -/
def mOf (cmd : BitVec 16) : BitVec 1 := cmd.extractLsb' 0 1

/-- `TD = CMD[2:1]` of CRYPT (R75). -/
def tdOf (cmd : BitVec 16) : BitVec 2 := cmd.extractLsb' 1 2

/-- The value of `M` (R76): 0 is Dec, 1 is Enc. -/
def SubMode.bits : SubMode → BitVec 1
  | .dec => 0
  | .enc => 1

/-- The sub-mode of a value of `M` (R76). -/
def subModeOfBits (m : BitVec 1) : SubMode := if m = 1 then .enc else .dec

/-- The value of `TD` (R77). -/
def Comp.bits : Comp → BitVec 2
  | .single => 0
  | .eee3 => 1
  | .ede3 => 2

/-- The composition of a value of `TD` (R77); `0b11` is reserved. -/
def compOfBits (td : BitVec 2) : Option Comp :=
  if td = 0 then some .single
  else if td = 1 then some .eee3
  else if td = 2 then some .ede3
  else none

/-- `RESV(op)`, the reserved bits of a defined opcode (45_commands.md R200). -/
def resv (op : BitVec 4) : BitVec 16 :=
  if op = 1 then 0x0FFC
  else if op = 3 then 0x0FF8
  else 0x0FFF

/-- The CRYPT command of a sub-mode and a composition (R77's table of six words). -/
def cryptOf (m : SubMode) (td : Comp) (block : Word) : Instr :=
  match m, td with
  | .dec, .single => .cryptDSingle block
  | .enc, .single => .cryptESingle block
  | .dec, .eee3 => .cryptDEee3 block
  | .enc, .eee3 => .cryptEEee3 block
  | .dec, .ede3 => .cryptDEde3 block
  | .enc, .ede3 => .cryptEEde3 block

/-- What a transfer decodes to: a legal command, or the cause of the fault it raises. -/
inductive Decoded where
  | legal (i : Instr)
  | illegal (c : FaultCause)
  deriving DecidableEq, Repr

/-- The checks of 45_commands.md R200 in the priority of 60_exceptions.md R237, then the opcode map of R73. -/
def decode (t : Transfer) : Decoded :=
  let op := opOf t.cmd
  if 6 ≤ op then .illegal .illegalOp
  else if op = 1 ∧ kOf t.cmd = 3 then .illegal .badKeyIndex
  else if op = 3 ∧ tdOf t.cmd = 3 then .illegal .badTdMode
  else if t.cmd &&& resv op ≠ 0 then .illegal .reservedField
  else if op = 0 then .legal (.nop t.opnd)
  else if op = 1 then .legal (.ldkey (kOf t.cmd) t.opnd)
  else if op = 2 then .legal (.clrkey t.opnd)
  else if op = 3 then
    match compOfBits (tdOf t.cmd) with
    | some td => .legal (cryptOf (subModeOfBits (mOf t.cmd)) td t.opnd)
    | none => .illegal .badTdMode
  else if op = 4 then .legal (.rdout t.opnd)
  else .legal (.rdstat t.opnd)

/-- The CRYPT word `0x3000 | (TD << 1) | M` (R75). -/
def cryptWord (m : SubMode) (td : Comp) : BitVec 16 :=
  0x3000 ||| (td.bits.setWidth 16 <<< 1) ||| m.bits.setWidth 16

/-- The transfer of a command (R74, R75, R78, R79). -/
def encode : Instr → Transfer
  | .nop opnd => ⟨0x0000, opnd⟩
  | .ldkey k key => ⟨0x1000 ||| k.setWidth 16, key⟩
  | .clrkey opnd => ⟨0x2000, opnd⟩
  | .cryptDSingle block => ⟨cryptWord .dec .single, block⟩
  | .cryptESingle block => ⟨cryptWord .enc .single, block⟩
  | .cryptDEee3 block => ⟨cryptWord .dec .eee3, block⟩
  | .cryptEEee3 block => ⟨cryptWord .enc .eee3, block⟩
  | .cryptDEde3 block => ⟨cryptWord .dec .ede3, block⟩
  | .cryptEEde3 block => ⟨cryptWord .enc .ede3, block⟩
  | .rdout opnd => ⟨0x4000, opnd⟩
  | .rdstat opnd => ⟨0x5000, opnd⟩

/-- The transfer whose bits are `w`, numbered as spec/opcode_table.json numbers them: `CMD` is bits 15 to 0 and `OPND` the
64 bits above it. Bits from `nbits` on are 0. DEDUCED from R70 and R85 (log 7). -/
def transferOfBits (nbits w : Nat) : Transfer :=
  let v := w % 2 ^ nbits
  ⟨BitVec.ofNat 16 v, BitVec.ofNat 64 (v / 2 ^ 16)⟩

/-- The command the decoder reads from an instruction's bits, none where it rejects them. -/
def decodeTableWord (nbits w : Nat) : Option Instr :=
  match decode (transferOfBits nbits w) with
  | .legal i => some i
  | .illegal _ => none

end Sys2Proof
end

