-- ==== Sys2Proof/Machine/BitTransform.lean ====
section
/-! DEFINITION. The bit-permutation unit of 40_bit_transform.md section 1 and the shape of its tables. -/

namespace Sys2Proof.Machine

/-- A constant table of the permutation unit (R100, R102): `nOut` entries, each naming one of the input's table bits 1 to
`nIn`. The length check of R232 is the field `length_eq`, met once by each table. -/
structure PermTable (nIn nOut : Nat) where
  entries : List Nat
  length_eq : entries.length = nOut
  in_range : ∀ e ∈ entries, 1 ≤ e ∧ e ≤ nIn

/-- Table bit `j` of a value (00_scope.md R9): bit 1 is the most significant. -/
def tb {n : Nat} (v : BitVec n) (j : Nat) : Bool := v.getLsbD (n - j)

/-- One turn of R100's loop: shift the result left and append the named input bit. -/
def permShift {nIn nOut : Nat} (src : BitVec nIn) (y : BitVec nOut) (j : Nat) : BitVec nOut :=
  (y <<< 1) ||| (BitVec.ofBool (tb src j)).setWidth nOut

/-- `perm(src, n_in, spec)` (R100). -/
def perm {nIn nOut : Nat} (T : PermTable nIn nOut) (src : BitVec nIn) : BitVec nOut :=
  T.entries.foldl (permShift src) 0

end Sys2Proof.Machine
end

