-- ==== Sys2Proof/Machine/SBox.lean ====
section
/-! DEFINITION. The S-box lookup of 41_sbox.md section 1, over any table of the right shape; the eight tables are in
Machine/Tables.lean. -/

namespace Sys2Proof.Machine

/-- One S-box table: four rows of sixteen 4-bit values. -/
structure SBoxTable where
  rows : List (List (BitVec 4))
  four_rows : rows.length = 4
  sixteen_columns : ∀ r ∈ rows, r.length = 16

/-- The entry at a row and a column; both are in range by their widths (R130). -/
def SBoxTable.at (S : SBoxTable) (row : BitVec 2) (col : BitVec 4) : BitVec 4 :=
  have hr : row.toNat < S.rows.length := Nat.lt_of_lt_of_eq row.isLt S.four_rows.symm
  have hc : col.toNat < S.rows[row.toNat].length :=
    Nat.lt_of_lt_of_eq col.isLt (S.sixteen_columns _ (List.getElem_mem hr)).symm
  S.rows[row.toNat][col.toNat]

/-- `row = 2 * bit(v, 5) + bit(v, 0)` (R120). -/
def sboxRow (v : BitVec 6) : BitVec 2 := BitVec.ofBool (v.getLsbD 5) ++ BitVec.ofBool (v.getLsbD 0)

/-- `col = v[4:1]` (R120). -/
def sboxCol (v : BitVec 6) : BitVec 4 := v.extractLsb' 1 4

/-- The lookup of R120 in one table. -/
def SBoxTable.lookup (S : SBoxTable) (v : BitVec 6) : BitVec 4 := S.at (sboxRow v) (sboxCol v)

end Sys2Proof.Machine
end

