-- ==== Sys2Proof/Machine/KeySchedule.lean ====
section
/-! DEFINITION. The key schedule as pure functions (42_key_schedule.md): initialisation, the advance in either direction,
and the round key. The register `KSST` is written by the engine, Machine/Engine.lean. -/

namespace Sys2Proof.Machine

/-- The key schedule's halves `C` and `D`. -/
structure KeyHalves where
  c : KeyHalf
  d : KeyHalf
  deriving DecidableEq, Repr

/-- `rotl28(v, s)` for `s` from 0 to 27 (00_scope.md R12). -/
def rotl28 (v : KeyHalf) (s : Nat) : KeyHalf := (v <<< s) ||| (v >>> (28 - s))

/-- `rotr28(v, s)` for `s` from 0 to 27 (00_scope.md R12). -/
def rotr28 (v : KeyHalf) (s : Nat) : KeyHalf := (v >>> s) ||| (v <<< (28 - s))

/-- The halves that `ks_init(key)` writes (R142): PC1, then the upper and the lower 28 bits. -/
def ksInit (key : Word) : KeyHalves :=
  let v := perm pc1 key
  { c := v.extractLsb' 28 28, d := v.extractLsb' 0 28 }

/-- The halves that `ks_advance(r, m)` writes: rotate left by `SHIFT_ENC[r]` in Enc (R143), right by `SHIFT_DEC[r]` in Dec
(R144). -/
def ksAdvance (r : Fin 16) (m : SubMode) (k : KeyHalves) : KeyHalves :=
  match m with
  | .enc => { c := rotl28 k.c (shiftEnc.amount r), d := rotl28 k.d (shiftEnc.amount r) }
  | .dec => { c := rotr28 k.c (shiftDec.amount r), d := rotr28 k.d (shiftDec.amount r) }

/-- `RK = PC2(C ‖ D)` of the new halves (R145). -/
def roundKey (k : KeyHalves) : RoundKey := perm pc2 (k.c ++ k.d)

/-- The halves after the first `n` advances of a stage, for `n` up to 16. -/
def keyTrace (m : SubMode) (key : Word) : Nat → KeyHalves
  | 0 => ksInit key
  | n + 1 => ksAdvance (Fin.ofNat 16 n) m (keyTrace m key n)

end Sys2Proof.Machine
end

