-- ==== Sys2Proof/Machine/Feistel.lean ====
section
/-! DEFINITION. The Feistel combiner and the single-block transform as pure functions (43_feistel_engine.md). There is no
half swap before FP (90_conflicts.md C5). -/

namespace Sys2Proof.Machine

/-- The Feistel halves `L` and `R`. -/
structure Halves where
  l : Half
  r : Half
  deriving DecidableEq, Repr

/-- Chunk `i` of the S-layer's input, `x[47-6i : 42-6i]` (R161). -/
def chunk (x : BitVec 48) (i : Fin 8) : BitVec 6 := x.extractLsb' (42 - 6 * i.val) 6

/-- `SLAYER(x)` (R161): nibble 0, from the most significant end, is the output of S-box index 0. -/
def slayer (x : BitVec 48) : Half :=
  sbox 0 (chunk x 0) ++ (sbox 1 (chunk x 1) ++ (sbox 2 (chunk x 2) ++ (sbox 3 (chunk x 3) ++
    (sbox 4 (chunk x 4) ++ (sbox 5 (chunk x 5) ++ (sbox 6 (chunk x 6) ++ sbox 7 (chunk x 7)))))))

/-- `f(h, RK)` (R160). -/
def feistel (h : Half) (rk : RoundKey) : Half := perm pbox (slayer (perm expansion h ^^^ rk))

/-- `round_enc` (R162). -/
def roundEnc (rk : RoundKey) (h : Halves) : Halves := { l := h.r, r := h.l ^^^ feistel h.r rk }

/-- `round_dec` (R163). -/
def roundDec (rk : RoundKey) (h : Halves) : Halves := { l := h.r ^^^ feistel h.l rk, r := h.l }

/-- The round of a sub-mode. -/
def round (m : SubMode) (rk : RoundKey) (h : Halves) : Halves :=
  match m with
  | .enc => roundEnc rk h
  | .dec => roundDec rk h

/-- The registers one stage works on: the Feistel halves and the key halves. -/
structure Datapath where
  halves : Halves
  keys : KeyHalves
  deriving DecidableEq, Repr

/-- The start of a transform (R164): IP, split, `ks_init`. -/
def stageStart (block key : Word) : Datapath :=
  let t := perm ip block
  { halves := { l := t.extractLsb' 32 32, r := t.extractLsb' 0 32 }, keys := ksInit key }

/-- One turn of R164's loop: advance the key schedule, then do the round with the new round key. -/
def stageRound (m : SubMode) (r : Fin 16) (p : Datapath) : Datapath :=
  let k := ksAdvance r m p.keys
  { halves := round m (roundKey k) p.halves, keys := k }

/-- The registers after the first `n` rounds of a stage that starts from `p`, for `n` up to 16. -/
def stageTrace (m : SubMode) (p : Datapath) : Nat → Datapath
  | 0 => p
  | n + 1 => stageRound m (Fin.ofNat 16 n) (stageTrace m p n)

/-- The output of a stage, `FP(L ‖ R)` (R164). -/
def stageOutput (p : Datapath) : Word := perm fp (p.halves.l ++ p.halves.r)

/-- `transform(block, key, m)` (R164). -/
def transform (block key : Word) (m : SubMode) : Word :=
  stageOutput (stageTrace m (stageStart block key) 16)

end Sys2Proof.Machine
end

