-- ==== Sys2Proof/Machine/Sequencer.lean ====
section
/-! DEFINITION. Stage plans and `run` as pure functions (44_triple_sequencer.md section 1). -/

namespace Sys2Proof.Machine

/-- One entry of a stage plan: a key index and a sub-mode. -/
structure Stage where
  k : Fin 3
  m : SubMode
  deriving DecidableEq, Repr

/-- `plan(m, td)` under a value of `EDE3_POLARITY`: the eight rows of R180. -/
def planOf (p : Polarity) (m : SubMode) (td : Comp) : List Stage :=
  match m, td, p with
  | .enc, .single, _ => [⟨0, .enc⟩]
  | .dec, .single, _ => [⟨0, .dec⟩]
  | .enc, .eee3, _ => [⟨0, .enc⟩, ⟨1, .enc⟩, ⟨2, .enc⟩]
  | .dec, .eee3, _ => [⟨2, .dec⟩, ⟨1, .dec⟩, ⟨0, .dec⟩]
  | .enc, .ede3, .ede => [⟨0, .enc⟩, ⟨1, .dec⟩, ⟨2, .enc⟩]
  | .dec, .ede3, .ede => [⟨2, .dec⟩, ⟨1, .enc⟩, ⟨0, .dec⟩]
  | .enc, .ede3, .ded => [⟨0, .dec⟩, ⟨1, .enc⟩, ⟨2, .dec⟩]
  | .dec, .ede3, .ded => [⟨2, .enc⟩, ⟨1, .dec⟩, ⟨0, .enc⟩]

/-- The block after a list of stages, in order (R184). -/
def runStages (keys : Triple Word) (stages : List Stage) (block : Word) : Word :=
  stages.foldl (fun x st => transform x (keys.get st.k) st.m) block

/-- `run(block, m, td)` (R184), the functional result of a CRYPT. -/
def run (p : Polarity) (keys : Triple Word) (block : Word) (m : SubMode) (td : Comp) : Word :=
  runStages keys (planOf p m td) block

end Sys2Proof.Machine
end

