-- ==== Sys2Proof/Machine/State.lean ====
section
/-! DEFINITION. The machine's state (10_state.md) as plain data, with the host, its command list and the order of steps
beside the block, and the state after reset (70_reset_and_hazards.md R260). -/

namespace Sys2Proof.Machine

/-- The response codes of 30_encoding.md R71. The code `0b11` is never produced, and no constructor stands for it. -/
inductive RCode where
  | ok
  | rejKey
  | faulted
  deriving DecidableEq, Repr

/-- One response transfer, `RCODE` and `RDATA` (R71). -/
structure Response where
  code : RCode
  data : Word
  deriving DecidableEq, Repr

/-- The key schedule's state `KSST` (R35). -/
inductive KeySchedState where
  | initialized
  | round (n : Fin 16)
  deriving DecidableEq, Repr

/-- Who moves in a step (70_reset_and_hazards.md R270): the host issues its next command, which the block takes at once unless
it is held (log 21), the command port takes the command whose hold has lifted, the engine ticks, or the environment asserts
`RST`. -/
inductive Agent where
  | host
  | port
  | engine
  | reset
  deriving DecidableEq, Repr

/-- The machine. The fields up to `pend` are the block's state (10_state.md section 6). The last four are the model's own:
`program` and `responses` are the host's (R273), `schedule` is the order of steps that R270 leaves open, and
`ede3Polarity` is the OPEN parameter of R183 (logs 1, 3, 4, 5). `STATUS` is computed from its fields (log 12). -/
structure State where
  /-- `KEY[0..2]` (R21). -/
  key : Triple Word
  /-- `KVALID[2:0]` (R22). -/
  kvalid : BitVec 3
  /-- `DOUT` (R23). -/
  dout : Word
  /-- `STATUS.BUSY` (R25). -/
  busy : Bool
  /-- `STATUS.DONE` (R26). -/
  done : Bool
  /-- `STATUS.KEYERR` (R27). -/
  keyerr : Bool
  /-- `STATUS.FAULT` (R28). -/
  fault : Bool
  /-- `STATUS.FCAUSE` (R29). -/
  fcause : BitVec 4
  /-- `L` (R32). -/
  l : Half
  /-- `R` (R32). -/
  r : Half
  /-- `C` (R33). -/
  c : KeyHalf
  /-- `D` (R33). -/
  d : KeyHalf
  /-- `RND`, 4 bits (R34). -/
  rnd : Fin 16
  /-- `STG`, 0 to 2 (R34). -/
  stg : Fin 3
  /-- `NST`, 2 bits (R34). -/
  nst : Fin 4
  /-- `PLAN[0..2]` (R34). -/
  plan : Triple Stage
  /-- `KSST` (R35). -/
  ksst : KeySchedState
  /-- `PEND` (R36). -/
  pend : Option Transfer
  /-- The host's commands it has not issued yet, in order. -/
  program : List Transfer
  /-- The responses the host has received, oldest first. -/
  responses : List Response
  /-- Who moves in the next steps. When it has run out, the default order of Machine/Schedule.lean decides. -/
  schedule : List Agent
  /-- `EDE3_POLARITY`; no step writes it. -/
  ede3Polarity : Polarity
  deriving DecidableEq, Repr

/-- Why the machine stops. Nothing stops it: a fault of the spec is entered as a state (60_exceptions.md R227) and the
block goes on answering, so this type has no constructor and no step can end in a stop (log 15). -/
inductive Fault : Type
  deriving DecidableEq, Repr

/-- Why an instruction has no meaning. -/
inductive Refusal where
  /-- Raised only by an arm of `exec` whose instruction has no meaning in this model yet, by its mnemonic. Safe. -/
  | notModelled (mnemonic : String)
  deriving DecidableEq, Repr

/-- The state after reset (R260). The host has no command to issue and has received nothing, no order of steps is fixed,
and `EDE3_POLARITY` is the open constant (logs 1, 3, 4, 5). -/
def State.reset : State where
  key := { e0 := 0, e1 := 0, e2 := 0 }
  kvalid := 0
  dout := 0
  busy := false
  done := false
  keyerr := false
  fault := false
  fcause := 0
  l := 0
  r := 0
  c := 0
  d := 0
  rnd := 0
  stg := 0
  nst := 0
  plan := { e0 := ⟨0, .dec⟩, e1 := ⟨0, .dec⟩, e2 := ⟨0, .dec⟩ }
  ksst := .initialized
  pend := none
  program := []
  responses := []
  schedule := []
  ede3Polarity := Config.ede3Polarity

end Sys2Proof.Machine
end

