-- ==== Sys2Proof/Machine/Operands.lean ====
section
/-! DEFINITION. The operand forms of the commands (30_encoding.md section 3): a key register index, the stage plan a CRYPT
names, and the zero extension of response data. The 64-bit operand itself is used whole (R79). -/

namespace Sys2Proof.Machine

/-- The key register that `k` selects (30_encoding.md R74); 3 selects none (R83). -/
def keyIndex (k : BitVec 2) : Option (Fin 3) :=
  if k = 0 then some 0
  else if k = 1 then some 1
  else if k = 2 then some 2
  else none

/-- `zext_64(v)` (00_scope.md R11). -/
def zext64 {n : Nat} (v : BitVec n) : Word := v.setWidth 64

/-- `PLAN` after a plan is written to it: a plan shorter than three entries leaves the unused ones alone
(44_triple_sequencer.md R185). -/
def writePlan (old : Triple Stage) (stages : List Stage) : Triple Stage :=
  match stages with
  | [] => old
  | [a] => { old with e0 := a }
  | [a, b] => { old with e0 := a, e1 := b }
  | a :: b :: c :: _ => { e0 := a, e1 := b, e2 := c }

/-- The length of a plan, as `NST` holds it (R185). -/
def planLength (stages : List Stage) : Fin 4 := Fin.ofNat 4 stages.length

end Sys2Proof.Machine
end

