-- ==== Sys2Proof/Machine/Flags.lean ====
section
/-! DEFINITION. The status word, the fault cause codes, the key-valid flags and the key-count check. -/

namespace Sys2Proof

/-- The cause codes of 60_exceptions.md R221. -/
def FaultCause.code : FaultCause → BitVec 4
  | .illegalOp => 1
  | .badKeyIndex => 2
  | .badTdMode => 3
  | .reservedField => 4

namespace Machine

/-- `RCODE[1:0]` (30_encoding.md R71). -/
def RCode.bits : RCode → BitVec 2
  | .ok => 0b00
  | .rejKey => 0b01
  | .faulted => 0b10

/-- `STATUS[15:0]` (10_state.md R24, R30): from the top, five zero bits, `KVALID`, `FCAUSE`, `FAULT`, `KEYERR`, `DONE`,
`BUSY`. -/
def statusWord (s : State) : BitVec 16 :=
  0#5 ++ s.kvalid ++ s.fcause ++ BitVec.ofBool s.fault ++ BitVec.ofBool s.keyerr ++ BitVec.ofBool s.done ++
    BitVec.ofBool s.busy

/-- The bit of `KVALID` for key register `k`. -/
def kvalidBit (k : Fin 3) : BitVec 3 := 1#3 <<< k.val

/-- The key registers a composition needs, as a mask of `KVALID` (60_exceptions.md R226). -/
def keyNeed (td : Comp) : BitVec 3 := if td = .single then 0b001 else 0b111

/-- Whether every key register a composition needs is valid (R226). -/
def keysLoaded (td : Comp) (s : State) : Bool := s.kvalid &&& keyNeed td == keyNeed td

/-- The flags that an accepted CRYPT writes (44_triple_sequencer.md R185). -/
def flagStarted (s : State) : State := { s with busy := true, done := false, keyerr := false }

/-- The flags that a rejected CRYPT writes (60_exceptions.md R226). -/
def flagRejected (s : State) : State := { s with keyerr := true, done := false }

/-- The flags that the completing tick writes (44_triple_sequencer.md R188). -/
def flagCompleted (s : State) : State := { s with busy := false, done := true }

end Machine

end Sys2Proof
end

