-- ==== Sys2Proof/Machine/Ops.lean ====
section
/-! DEFINITION. The named operations on the state that commands and steps share: answering, the key registers, entering
the fault state and the one way back from it, and the host's and the port's moves on `PEND`. -/

namespace Sys2Proof.Machine

/-- `respond(code, data)` (00_scope.md R13): the host receives one response. -/
def respond (code : RCode) (data : Word) (s : State) : State :=
  { s with responses := s.responses ++ [{ code := code, data := data }] }

/-- LDKEY's writes to one key register and its valid flag (45_commands.md R202). -/
def writeKey (k : Fin 3) (key : Word) (s : State) : State :=
  { s with key := s.key.set k key, kvalid := s.kvalid ||| kvalidBit k }

/-- CLRKEY's writes (45_commands.md R203). -/
def clearKeys (s : State) : State := { s with key := { e0 := 0, e1 := 0, e2 := 0 }, kvalid := 0 }

/-- Fault entry, `raise Fault(cause)` (60_exceptions.md R227). -/
def raiseFault (c : FaultCause) (s : State) : State :=
  respond .faulted 0 { s with fault := true, fcause := c.code }

/-- The reset step (70_reset_and_hazards.md R260), the only way back from the fault state (60_exceptions.md R229). It
writes every element of the block, and leaves what is outside it: the host's command list and received responses, the
order of steps, and the parameter. -/
def resetStep (s : State) : State :=
  { State.reset with
    program := s.program, responses := s.responses, schedule := s.schedule, ede3Polarity := s.ede3Polarity }

/-- The answer to a command refused in the fault state (60_exceptions.md R228). -/
def refuse (s : State) : State := respond .faulted 0 s

/-- `PEND <- empty` of the command step (45_commands.md R200). -/
def takePend (s : State) : State := { s with pend := none }

/-- The host issues its next command when `PEND` is empty (45_commands.md R200). While a command is pending it has no move
(70_reset_and_hazards.md R272, log 3). -/
def hostIssue (s : State) : State :=
  match s.pend, s.program with
  | none, t :: rest => { s with pend := some t, program := rest }
  | _, _ => s

end Sys2Proof.Machine
end

