-- ==== Sys2Proof/Machine/Engine.lean ====
section
/-! DEFINITION. The engine agent (44_triple_sequencer.md section 2): operation start, the tick, end of stage and
completion. -/

namespace Sys2Proof.Machine

/-- The registers `L`, `R`, `C`, `D` together. -/
def State.datapath (s : State) : Datapath :=
  { halves := { l := s.l, r := s.r }, keys := { c := s.c, d := s.d } }

/-- Writes `L`, `R`, `C`, `D` and `KSST`. -/
def writeDatapath (p : Datapath) (k : KeySchedState) (s : State) : State :=
  { s with l := p.halves.l, r := p.halves.r, c := p.keys.c, d := p.keys.d, ksst := k }

/-- The plan entry of the current stage, `PLAN[STG]`. -/
def currentStage (s : State) : Stage := s.plan.get s.stg

/-- `stage_init(x, STG)` (R185): reads the key register that `PLAN[STG]` names. -/
def stageInit (x : Word) (s : State) : State :=
  writeDatapath (stageStart x (s.key.get (currentStage s).k)) .initialized s

/-- Operation start (R185). -/
def startOperation (m : SubMode) (td : Comp) (b : Word) (s : State) : State :=
  let stages := planOf s.ede3Polarity m td
  flagStarted
    (stageInit b { s with plan := writePlan s.plan stages, nst := planLength stages, stg := 0, rnd := 0 })

/-- `complete(y)` (R188). -/
def complete (y : Word) (s : State) : State := flagCompleted { s with dout := y }

/-- `end_of_stage()` (R187). -/
def endOfStage (s : State) : State :=
  let y := stageOutput s.datapath
  if s.stg.val + 1 < s.nst.val then stageInit y { s with stg := s.stg + 1, rnd := 0 } else complete y s

/-- The registers after this tick's round, and `KSST <- Round(RND)` (R186, 42_key_schedule.md R146). -/
def tickRound (s : State) : State :=
  writeDatapath (stageRound (currentStage s).m s.rnd s.datapath) (.round s.rnd) s

/-- The engine tick (R186). -/
def tick (s : State) : State :=
  let s := tickRound s
  if s.rnd.val < 15 then { s with rnd := s.rnd + 1 } else endOfStage s

end Sys2Proof.Machine
end

