-- ==== Sys2Proof/Machine/Crypt.lean ====
section
/-! DEFINITION. CRYPT in its six forms (45_commands.md R204). -/

namespace Sys2Proof.Machine

/-- The rejection of a CRYPT for a missing key (60_exceptions.md R226). -/
def rejectKey (s : State) : State := respond .rejKey 0 (flagRejected s)

/-- CRYPT with sub-mode `m` and composition `td` on a block (R204). -/
def cryptCommand (m : SubMode) (td : Comp) (block : Word) (s : State) : State :=
  if keysLoaded td s then respond .ok 0 (startOperation m td block s) else rejectKey s

/-- `crypt.d.single`. -/
def execCryptDSingle (block : Word) (s : State) : Host.Outcome State Fault Refusal :=
  .next (cryptCommand .dec .single block s)

/-- `crypt.e.single`. -/
def execCryptESingle (block : Word) (s : State) : Host.Outcome State Fault Refusal :=
  .next (cryptCommand .enc .single block s)

/-- `crypt.d.eee3`. -/
def execCryptDEee3 (block : Word) (s : State) : Host.Outcome State Fault Refusal :=
  .next (cryptCommand .dec .eee3 block s)

/-- `crypt.e.eee3`. -/
def execCryptEEee3 (block : Word) (s : State) : Host.Outcome State Fault Refusal :=
  .next (cryptCommand .enc .eee3 block s)

/-- `crypt.d.ede3`. -/
def execCryptDEde3 (block : Word) (s : State) : Host.Outcome State Fault Refusal :=
  .next (cryptCommand .dec .ede3 block s)

/-- `crypt.e.ede3`. -/
def execCryptEEde3 (block : Word) (s : State) : Host.Outcome State Fault Refusal :=
  .next (cryptCommand .enc .ede3 block s)

end Sys2Proof.Machine
end

