-- ==== Sys2Proof/Machine/KeyCommands.lean ====
section
/-! DEFINITION. NOP, LDKEY and CLRKEY (45_commands.md R201 to R203). -/

namespace Sys2Proof.Machine

/-- NOP (R201). -/
def execNop (s : State) : Host.Outcome State Fault Refusal := .next (respond .ok 0 s)

/-- LDKEY (R202); `k = 3` raises BAD_KEY_INDEX (60_exceptions.md R223, log 14). -/
def execLdkey (k : BitVec 2) (key : Word) (s : State) : Host.Outcome State Fault Refusal :=
  match keyIndex k with
  | some i => .next (respond .ok 0 (writeKey i key s))
  | none => .next (raiseFault .badKeyIndex s)

/-- CLRKEY (R203). -/
def execClrkey (s : State) : Host.Outcome State Fault Refusal := .next (respond .ok 0 (clearKeys s))

end Sys2Proof.Machine
end

