-- ==== Sys2Proof/Machine/ReadCommands.lean ====
section
/-! DEFINITION. RDOUT and RDSTAT (45_commands.md R205, R206). -/

namespace Sys2Proof.Machine

/-- RDOUT (R205): answers `DOUT`, fresh or stale. -/
def execRdout (s : State) : Host.Outcome State Fault Refusal := .next (respond .ok s.dout s)

/-- RDSTAT (R206): answers `STATUS`, zero-extended. -/
def execRdstat (s : State) : Host.Outcome State Fault Refusal := .next (respond .ok (zext64 (statusWord s)) s)

end Sys2Proof.Machine
end

