-- ==== Sys2Proof/Machine/Dispatch.lean ====
section
/-! DEFINITION. One arm per command: the last line of R200's command step, "perform op's rule". -/

namespace Sys2Proof.Machine

def exec (i : Instr) (s : State) : Host.Outcome State Fault Refusal :=
  match i with
  | .nop _ => Sys2Proof.Machine.execNop s
  | .ldkey k key => Sys2Proof.Machine.execLdkey k key s
  | .clrkey _ => Sys2Proof.Machine.execClrkey s
  | .cryptDSingle block => Sys2Proof.Machine.execCryptDSingle block s
  | .cryptESingle block => Sys2Proof.Machine.execCryptESingle block s
  | .cryptDEee3 block => Sys2Proof.Machine.execCryptDEee3 block s
  | .cryptEEee3 block => Sys2Proof.Machine.execCryptEEee3 block s
  | .cryptDEde3 block => Sys2Proof.Machine.execCryptDEde3 block s
  | .cryptEEde3 block => Sys2Proof.Machine.execCryptEEde3 block s
  | .rdout _ => Sys2Proof.Machine.execRdout s
  | .rdstat _ => Sys2Proof.Machine.execRdstat s

end Sys2Proof.Machine
end

