-- ==== Sys2Proof/Machine/Port.lean ====
section
/-! DEFINITION. What the command port does with the pending command before it performs it: the first checks of 45_commands.md
R200, in the priority of 60_exceptions.md R237. -/

namespace Sys2Proof.Machine

/-- What becomes of a pending command. -/
inductive Admission where
  | hold
  | refuse
  | raise (c : FaultCause)
  | perform (i : Instr)
  deriving DecidableEq, Repr

/-- Whether the block holds a command word: an operation runs and the word is neither `0x0000` nor `0x5000` (R200). -/
def held (cmd : BitVec 16) (s : State) : Bool := s.busy && cmd != 0x0000 && cmd != 0x5000

/-- Whether the block refuses a command word: it is in the fault state and the word is not `0x5000` (60_exceptions.md
R228). -/
def refused (cmd : BitVec 16) (s : State) : Bool := s.fault && cmd != 0x5000

/-- The fate of a pending command (R200, R237). -/
def admission (t : Transfer) (s : State) : Admission :=
  if held t.cmd s then .hold
  else if refused t.cmd s then .refuse
  else
    match decode t with
    | .legal i => .perform i
    | .illegal c => .raise c

end Sys2Proof.Machine
end

