-- ==== Sys2Proof/Machine/Schedule.lean ====
section
/-! DEFINITION. The order of steps. R270 admits every interleaving; the model reads one from `schedule`, which is data, so a
statement about every state is one about every schedule. -/

namespace Sys2Proof.Machine

/-- Whether the port's step is enabled: a command is pending and is not held (R200). -/
def portEnabled (s : State) : Bool :=
  match s.pend with
  | some t => !held t.cmd s
  | none => false

/-- The agent that moves when `schedule` has run out: the port if its step is enabled, else the engine if an operation runs,
else the host. So no enabled agent waits for ever, which is the fairness of 44_triple_sequencer.md R193. DESIGN CHOICE
(log 2). -/
def defaultAgent (s : State) : Agent :=
  if portEnabled s then .port else if s.busy then .engine else .host

/-- The agent of the next step. -/
def nextAgent (s : State) : Agent :=
  match s.schedule with
  | [] => defaultAgent s
  | a :: _ => a

/-- The schedule moves on by one entry. -/
def popSchedule (s : State) : State := { s with schedule := s.schedule.tail }

/-- The engine's move: a tick, which is enabled exactly when `BUSY = 1` (R186); otherwise nothing. -/
def engineMove (s : State) : State := if s.busy then tick s else s

end Sys2Proof.Machine
end

