-- ==== Sys2Proof/Machine/Moves.lean ====
section
/-! DEFINITION. What each agent does when it moves: the command step of 45_commands.md R200, from `PEND` or with the host's
issue, the engine's tick, and reset. -/

namespace Sys2Proof.Machine

/-- The command step on the pending command `t` (R200). A held command has no step. -/
def commandStep (t : Transfer) (s : State) : Host.Outcome State Fault Refusal :=
  match admission t s with
  | .hold => .next s
  | .refuse => .next (refuse (takePend s))
  | .raise c => .next (raiseFault c (takePend s))
  | .perform i => exec i (takePend s)

/-- The port's move: the command step, when a command is pending. -/
def portMove (s : State) : Host.Outcome State Fault Refusal :=
  match s.pend with
  | none => .next s
  | some t => commandStep t s

/-- The host's move: it issues its next command, and the block's command step takes it at once unless it is held. So `PEND`
is non-empty only while its command is held (10_state.md R36), and the host has no kind of step of its own
(70_reset_and_hazards.md R270). DEDUCED (log 21). -/
def hostMove (s : State) : Host.Outcome State Fault Refusal :=
  match s.pend with
  | none => portMove (hostIssue s)
  | some _ => .next s

/-- One agent's move. An agent whose step is not enabled leaves the machine as it is. -/
def move (a : Agent) (s : State) : Host.Outcome State Fault Refusal :=
  match a with
  | .host => hostMove s
  | .port => portMove s
  | .engine => .next (engineMove s)
  | .reset => .next (resetStep s)

end Sys2Proof.Machine
end

