-- ==== Sys2Proof/Machine/Step.lean ====
section
/-! DEFINITION. One step of the machine: the scheduled agent moves. -/

namespace Sys2Proof.Machine

/-- One step (70_reset_and_hazards.md R270): the next agent of the schedule moves. -/
def step (s : State) : Host.Outcome State Fault Refusal := move (nextAgent s) (popSchedule s)

/-- `s` with nothing pending, the transfer of bits `w` as the host's next command, and the host's step next, which issues it
and runs it (log 8). -/
def State.withFetchWord (s : State) (nbits w : Nat) : State :=
  { s with pend := none, program := transferOfBits nbits w :: s.program, schedule := .host :: s.schedule }

end Sys2Proof.Machine
end

