-- ==== Sys2Proof/Machine/HostSide.lean ====
section
/-! DEFINITION. What the host does around the port: packing buffer bytes into operands (20_memory.md R54), and the spec's
listing of a transfer (30_encoding.md R86). The packing is an argument everywhere. -/

namespace Sys2Proof.Machine

/-- The command that runs `crypt` on eight buffer bytes, under a packing. -/
def cryptBytes (p : BlockPacking) (m : SubMode) (td : Comp) (bs : Bytes8) : Instr := cryptOf m td (p.pack bs)

/-- The buffer bytes that a CRYPT of eight buffer bytes yields: the engine works on the packed word (R54). -/
def runBytes (p : BlockPacking) (pol : Polarity) (keys : Triple Word) (m : SubMode) (td : Comp) (bs : Bytes8) : Bytes8 :=
  p.unpack (run pol keys (p.pack bs) m td)

/-- Hexadecimal digits of a value, most significant first, capitals as in R86. -/
def hexDigits (v : Nat) : Nat → List Char
  | 0 => []
  | n + 1 =>
    let d := v / 16 ^ n % 16
    Char.ofNat (if d < 10 then 48 + d else 55 + d) :: hexDigits v n

/-- The listing `WORD:OPERAND` of a transfer (30_encoding.md R86). -/
def listing (t : Transfer) : List Char := hexDigits t.cmd.toNat 4 ++ ':' :: hexDigits t.opnd.toNat 16

end Sys2Proof.Machine
end

