-- ==== Sys2Proof/Safety.lean ====
section
/-! DEFINITION. What claims about the block speak of: the invariant of every run, an operation in progress, and the start
and the end of a host's run (70_reset_and_hazards.md R263, R265, R273). -/

namespace Sys2Proof.Machine

/-- The next step is the command step on `t` (45_commands.md R200), unless `t` is held: the port takes it from `PEND`, or the
host issues it into an empty `PEND`. -/
abbrev Takes (t : Transfer) (s : State) : Prop :=
  (nextAgent s = .port ∧ s.pend = some t) ∨ (nextAgent s = .host ∧ s.pend = none ∧ s.program.head? = some t)

/-- The state that command step performs the command on: `PEND` empty, the schedule's entry used up, and an issued command gone
from the host's list. -/
def taken (s : State) : State :=
  { s with
    pend := none, schedule := s.schedule.tail
    program := if nextAgent s = .host then s.program.tail else s.program }

/-- What 10_state.md R36 says of `PEND`: a pending command was issued during an operation that held it, and that operation
still runs, or its completing tick has just lifted the hold and no step but the command's own has come since (log 21). -/
structure PendHeld (s : State) : Prop where
  /-- The words that are never held are never pending. -/
  word : ∀ t, s.pend = some t → t.cmd ≠ 0x0000 ∧ t.cmd ≠ 0x5000
  /-- The operation that held the command runs or has completed. -/
  operation : s.pend ≠ none → s.busy = true ∨ s.done = true
  /-- No fault came between. -/
  no_fault : s.pend ≠ none → s.fault = false

/-- The plan entries of the current operation: the first `NST` of `PLAN`. -/
def planEntries (s : State) : List Stage := [s.plan.e0, s.plan.e1, s.plan.e2].take s.nst.val

/-- `KSST` between two ticks of a stage whose next round is `rnd` (42_key_schedule.md R146). -/
def ksstBefore (rnd : Fin 16) : KeySchedState :=
  if rnd = 0 then .initialized else .round (rnd - 1)

/-- What the rules of 10_state.md and 60_exceptions.md say of every state of a run. -/
structure Inv (s : State) : Prop where
  /-- `FAULT` is never set while `BUSY = 1` (60_exceptions.md R231). -/
  fault_idle : s.fault = true → s.busy = false
  /-- `FCAUSE` reads 0 while `FAULT` is 0 (10_state.md R29). -/
  no_cause : s.fault = false → s.fcause = 0
  /-- `FCAUSE` holds a cause code of 60_exceptions.md R221, never 0 or 5 to 15, while `FAULT` is 1. -/
  some_cause : s.fault = true → ∃ c : FaultCause, s.fcause = c.code
  /-- An operation in progress has cleared `DONE` and `KEYERR` (44_triple_sequencer.md R185). -/
  busy_flags : s.busy = true → s.done = false ∧ s.keyerr = false
  /-- After a rejection `DONE` is 0 until a CRYPT is accepted (60_exceptions.md R226). -/
  keyerr_stale : s.keyerr = true → s.done = false
  /-- A key register that is not valid holds 0 (10_state.md R21, R22). -/
  unloaded_zero : ∀ k : Fin 3, s.kvalid.getLsbD k.val = false → s.key.get k = 0
  /-- The stage counter stays below `NST` (10_state.md R31). -/
  stage_lt : s.busy = true → s.stg.val < s.nst.val
  /-- `PLAN` holds a plan of 44_triple_sequencer.md R180, whose key registers are all valid (R226). -/
  plan_legal : s.busy = true →
    ∃ m td, planEntries s = planOf s.ede3Polarity m td ∧ keysLoaded td s = true
  /-- `KSST` follows `RND` (42_key_schedule.md R146). -/
  ksst_follows : s.busy = true → s.ksst = ksstBefore s.rnd

/-- The operation `(m, td, b)` is in progress in `s` (44_triple_sequencer.md R185 to R187): the plan is the operation's, and
`L`, `R`, `C`, `D` are what the loop of 43_feistel_engine.md R164 holds after `RND` rounds of stage `STG`, whose input is the
block after the stages before it. -/
structure Running (m : SubMode) (td : Comp) (b : Word) (s : State) : Prop where
  busy : s.busy = true
  no_fault : s.fault = false
  plan : planEntries s = planOf s.ede3Polarity m td
  stage_lt : s.stg.val < s.nst.val
  datapath : s.datapath =
    stageTrace (currentStage s).m
      (stageStart (runStages s.key ((planEntries s).take s.stg.val) b) (s.key.get (currentStage s).k)) s.rnd.val

/-- How many ticks an operation in progress still takes (44_triple_sequencer.md R189). -/
def ticksLeft (s : State) : Nat := 16 * (s.nst.val - s.stg.val) - s.rnd.val

/-- States of runs that start after a reset (R263), with any host program, any order of steps and either value of the open
parameter. -/
inductive Reachable : State → Prop where
  | start (program : List Transfer) (schedule : List Agent) (p : Polarity) :
      Reachable { State.reset with program := program, schedule := schedule, ede3Polarity := p }
  | step {s t : State} (h : Reachable s) (hs : Machine.step s = .next t) : Reachable t

/-- The launch premise `clean_entry` (R265). A response is outstanding exactly while a command is pending, since the command
step that takes it also answers it. -/
structure CleanEntry (s : State) : Prop where
  reachable : Reachable s
  no_fault : s.fault = false
  idle : s.busy = false
  nothing_pending : s.pend = none

/-- How many commands a run from `start` has: those still to issue and the one pending. -/
def commandCount (start : State) : Nat := start.program.length + start.pend.toList.length

/-- The three conditions of R273 in `s`, for the run from `start`: every command of the list has received its response,
`PEND` is empty and no operation is in progress. A command takes at most one response, so the responses are counted; a command
that reset discarded never has one (R262, log 19). Where a reset abandons the last command, a CRYPT already answered `OK`, the
conditions hold after that reset, and the model takes the run as over there, though its operation never completes: DESIGN
CHOICE (log 22). -/
def endOfRun (start s : State) : Bool :=
  s.responses.length == start.responses.length + commandCount start && s.pend.isNone && !s.busy

/-- The first state at the end of the run from `start`, looking `fuel` steps beyond `s`. -/
def firstEnd (start : State) : Nat → State → Option State
  | 0, s => if endOfRun start s then some s else none
  | fuel + 1, s =>
    if endOfRun start s then some s
    else
      match step s with
      | .next t => firstEnd start fuel t
      | .fault _ => none
      | .refused _ => none

/-- The run from `start` ends in `e`: the FIRST state at which R273's conditions hold. -/
def EndsIn (start e : State) : Prop := ∃ fuel, firstEnd start fuel start = some e

/-- The run from `start` ends in `e`, and did not end in the fault state (R273). A reset that comes after the end of a run does
not make it a successful one. -/
def SuccessfulEnd (start e : State) : Prop := EndsIn start e ∧ e.fault = false

/-- The list of responses that belongs to the end state of a run (R273). -/
def runResponses (start e : State) : List Response := e.responses.drop start.responses.length

end Sys2Proof.Machine
end

