-- ==== Sys2Proof/Certificates/Slice0/Obligations.lean ====
section
/-! DEFINITION. The statements for the provers, from the numbered rules of spec/. A next state is written out field by field,
so each result statement is its frame as well: a field not named is unchanged. The abbreviations of `Sys2Proof.Claims` are
written from the rules and call none of the machine's own operations on State; `Takes` and `taken` of Safety.lean say which
command the next step is the command step of, and on which state. -/

namespace Sys2Proof.Claims

open Sys2Proof.Machine

/-- `s` after one more response (30_encoding.md R71). -/
abbrev answered (code : RCode) (data : Word) (s : State) : State :=
  { s with responses := s.responses ++ [{ code := code, data := data }] }

/-- `s` after a step's schedule entry is used up. -/
abbrev scheduled (s : State) : State := { s with schedule := s.schedule.tail }

/-- `s` after fault entry with a cause code (60_exceptions.md R227). -/
abbrev faulted (code : BitVec 4) (s : State) : State :=
  answered .faulted 0 { s with fault := true, fcause := code }

/-- `s` after an operation has started with a plan, its length, its first stage's key and a block
(44_triple_sequencer.md R185), and the CRYPT has answered `OK`. -/
abbrev started (plan : Triple Stage) (nst : Fin 4) (key b : Word) (s : State) : State :=
  answered .ok 0
    { s with
      plan := plan, nst := nst, stg := 0, rnd := 0
      l := (perm ip b).extractLsb' 32 32, r := (perm ip b).extractLsb' 0 32
      c := (perm pc1 key).extractLsb' 28 28, d := (perm pc1 key).extractLsb' 0 28
      ksst := .initialized, busy := true, done := false, keyerr := false }

/-- `s` after the round of an Enc tick (42_key_schedule.md R143, R146, 43_feistel_engine.md R162). -/
abbrev encRound (s : State) : State :=
  let c := rotl28 s.c (shiftEnc.amount s.rnd)
  let d := rotl28 s.d (shiftEnc.amount s.rnd)
  { s with c := c, d := d, ksst := .round s.rnd, l := s.r, r := s.l ^^^ feistel s.r (perm pc2 (c ++ d)) }

/-- `s` after the round of a Dec tick (42_key_schedule.md R144, R146, 43_feistel_engine.md R163). -/
abbrev decRound (s : State) : State :=
  let c := rotr28 s.c (shiftDec.amount s.rnd)
  let d := rotr28 s.d (shiftDec.amount s.rnd)
  { s with c := c, d := d, ksst := .round s.rnd, l := s.r ^^^ feistel s.l (perm pc2 (c ++ d)), r := s.l }

/-- `s` after the round of a tick, by the current stage's sub-mode (44_triple_sequencer.md R186). -/
abbrev ticked (s : State) : State :=
  match (s.plan.get s.stg).m with
  | .enc => encRound s
  | .dec => decRound s

/-- Whether a command word is held (45_commands.md R200). -/
abbrev Held (cmd : BitVec 16) (s : State) : Prop := s.busy = true ∧ cmd ≠ 0x0000 ∧ cmd ≠ 0x5000

/-- The three conditions of 70_reset_and_hazards.md R273 in `s`, for the run from `start`: as many responses have come as the run
has commands (those of the list and the one pending at its start), `PEND` is empty and no operation is in progress. -/
abbrev Ended (start s : State) : Prop :=
  s.responses.length = start.responses.length + (start.program.length + start.pend.toList.length) ∧
  s.pend = none ∧ s.busy = false

/-- The 13 legal command words (30_encoding.md R84). -/
abbrev legalWords : List (BitVec 16) :=
  [0x0000, 0x1000, 0x1001, 0x1002, 0x2000, 0x3000, 0x3001, 0x3002, 0x3003, 0x3004, 0x3005, 0x4000, 0x5000]

end Sys2Proof.Claims

open Sys2Proof Sys2Proof.Machine Sys2Proof.Claims

/-! ### Encoding -/

/-- 30_encoding.md R73 to R79: every well-formed command, with every operand, is read back from its own transfer. -/
def Obligations.DecodeEncodeRoundTrip : Prop :=
  ∀ i : Instr, i.WellFormed = true → decode (encode i) = .legal i

/-- 30_encoding.md R73 to R79: a transfer that decodes is the encoding of the command read, so no bit of it is dropped. -/
def Obligations.EncodeDecodeRoundTrip : Prop :=
  ∀ (t : Transfer) (i : Instr), decode t = .legal i → i.WellFormed = true ∧ encode i = t

/-- 30_encoding.md R84: the 13 words are NOP, three LDKEY, CLRKEY, six CRYPT, RDOUT and RDSTAT; every other word raises a
fault when the block accepts it. -/
def Obligations.ExactlyThirteenWordsAreLegal : Prop :=
  legalWords.Nodup ∧ legalWords.length = 13 ∧
  (∀ x : Word,
    legalWords.map (fun w => decode ⟨w, x⟩) =
      [.legal (.nop x), .legal (.ldkey 0 x), .legal (.ldkey 1 x), .legal (.ldkey 2 x), .legal (.clrkey x),
        .legal (.cryptDSingle x), .legal (.cryptESingle x), .legal (.cryptDEee3 x), .legal (.cryptEEee3 x),
        .legal (.cryptDEde3 x), .legal (.cryptEEde3 x), .legal (.rdout x), .legal (.rdstat x)]) ∧
  ∀ t : Transfer, t.cmd ∉ legalWords →
    ∃ c : FaultCause, decode t = .illegal c ∧
      ∀ s : State, Takes t s → s.busy = false → s.fault = false → step s = .next (faulted c.code (taken s))

/-- 60_exceptions.md R222 to R225, in the priority of R237: which cause an accepted illegal word raises, and that nothing
but the fault entry happens. -/
def Obligations.IllegalWordsRaiseTheirCause : Prop :=
  ∀ (s : State) (t : Transfer), Takes t s → s.busy = false → s.fault = false →
    let op := t.cmd.extractLsb' 12 4
    let badKey := op = 1 ∧ t.cmd.extractLsb' 0 2 = 3
    let badTd := op = 3 ∧ t.cmd.extractLsb' 1 2 = 3
    (6 ≤ op.toNat → step s = .next (faulted 1 (taken s))) ∧
    (badKey → step s = .next (faulted 2 (taken s))) ∧
    (badTd → step s = .next (faulted 3 (taken s))) ∧
    (¬badKey → ¬badTd →
      ((op = 0 ∨ op = 2 ∨ op = 4 ∨ op = 5) ∧ t.cmd &&& 0x0FFF ≠ 0 ∨ op = 1 ∧ t.cmd &&& 0x0FFC ≠ 0 ∨
        op = 3 ∧ t.cmd &&& 0x0FF8 ≠ 0) →
      step s = .next (faulted 4 (taken s)))

/-- Words written out from 30_encoding.md R73 to R78, one a command. -/
def Obligations.SampleWordsDecode : Prop :=
  decodeTableWord 16 0x0000 = some (.nop 0) ∧
  decodeTableWord 80 0x133457799BBCDFF11002 = some (.ldkey 2 0x133457799BBCDFF1) ∧
  decodeTableWord 16 0x2000 = some (.clrkey 0) ∧
  decodeTableWord 80 0x0123456789ABCDEF3001 = some (.cryptESingle 0x0123456789ABCDEF) ∧
  decodeTableWord 80 0x0123456789ABCDEF3002 = some (.cryptDEee3 0x0123456789ABCDEF) ∧
  decodeTableWord 80 0x0123456789ABCDEF3005 = some (.cryptEEde3 0x0123456789ABCDEF) ∧
  decodeTableWord 16 0x4000 = some (.rdout 0) ∧
  decodeTableWord 16 0x5000 = some (.rdstat 0) ∧
  decodeTableWord 16 0x1003 = none ∧ decodeTableWord 16 0x3006 = none

/-! ### Steps -/

/-- 45_commands.md R200: when the transfer the next step takes, from `PEND` or with the host's issue, decodes to a command and
is neither held nor refused, that step is the command's meaning, on the state with `PEND` empty. The second clause says when a
step takes a transfer: by the schedule's first entry, and by the model's default order when the schedule has run out (log 2). -/
def Obligations.StepRunsDecodedInstruction : Prop :=
  ∀ (s : State) (t : Transfer) (i : Instr), decode t = .legal i → ¬Held t.cmd s → (s.fault = true → t.cmd = 0x5000) →
    (Takes t s → step s = exec i (taken s)) ∧
    (∀ rest, (s.pend = some t ∧ (s.schedule = .port :: rest ∨ s.schedule = []) ∨
        s.pend = none ∧ s.program.head? = some t ∧ (s.schedule = .host :: rest ∨ s.schedule = [] ∧ s.busy = false)) →
      Takes t s)

/-- The fetch that `withFetchWord` sets up (log 8): the next step runs the command read from the bits. -/
def Obligations.FetchedWordRunsNext : Prop :=
  ∀ (s : State) (nbits w : Nat) (i : Instr), decodeTableWord nbits w = some i → s.busy = false → s.fault = false →
    step (s.withFetchWord nbits w) = exec i { s with pend := none }

/-- 45_commands.md R200: a held command has no step, and `PEND` keeps it; one that the host issues comes to `PEND` and stays
there. That a port's entry of the schedule is then used up without effect, and that the engine comes next when the schedule has
run out, are the model's choices (logs 1 and 2). -/
def Obligations.HeldCommandHasNoStep : Prop :=
  ∀ (s : State) (t : Transfer), Held t.cmd s →
    (s.pend = some t → nextAgent s = .port → step s = .next (scheduled s)) ∧
    (s.pend = some t → s.schedule = [] → nextAgent s = .engine) ∧
    (∀ rest, s.pend = none → s.program = t :: rest → nextAgent s = .host →
      step s = .next { s with pend := some t, program := rest, schedule := s.schedule.tail })

/-- 60_exceptions.md R228: in the fault state every word but 0x5000 is refused without effect, and 0x5000 answers `STATUS`. -/
def Obligations.FaultStateRefusesAllButRdstat : Prop :=
  ∀ (s : State) (t : Transfer), Inv s → s.fault = true → Takes t s →
    (t.cmd ≠ 0x5000 → step s = .next (answered .faulted 0 (taken s))) ∧
    (t.cmd = 0x5000 → step s = .next (answered .ok ((statusWord s).setWidth 64) (taken s)))

/-- 60_exceptions.md R228, R229: in the fault state no step but reset changes any of the block's state except `PEND`, so the
first cause stays. -/
def Obligations.FaultStateIsLeftOnlyByReset : Prop :=
  ∀ s t : State, Inv s → s.fault = true → step s = .next t →
    (nextAgent s = .reset → t.fault = false ∧ t.fcause = 0) ∧
    (nextAgent s ≠ .reset →
      t = { s with pend := t.pend, program := t.program, responses := t.responses, schedule := t.schedule })

/-- 70_reset_and_hazards.md R260: the reset step, from every state, and that no other step clears `FAULT`. -/
def Obligations.ResetStepRestoresTheBlock : Prop :=
  (∀ s : State, nextAgent s = .reset →
    ∃ t, step s = .next t ∧
      t.key = ⟨0, 0, 0⟩ ∧ t.kvalid = 0 ∧ t.dout = 0 ∧ statusWord t = 0 ∧ t.busy = false ∧ t.done = false ∧
      t.keyerr = false ∧ t.fault = false ∧ t.fcause = 0 ∧ t.l = 0 ∧ t.r = 0 ∧ t.c = 0 ∧ t.d = 0 ∧ t.rnd = 0 ∧
      t.stg = 0 ∧ t.nst = 0 ∧ t.plan = ⟨⟨0, .dec⟩, ⟨0, .dec⟩, ⟨0, .dec⟩⟩ ∧ t.ksst = .initialized ∧ t.pend = none) ∧
  (∀ s t : State, step s = .next t → s.fault = true → t.fault = false → nextAgent s = .reset)

/-- 70_reset_and_hazards.md R260: the registers of the reset state, and `STATUS = 0x0000`. -/
def Obligations.ResetStateRegisters : Prop :=
  State.reset.key = ⟨0, 0, 0⟩ ∧ State.reset.kvalid = 0 ∧ State.reset.dout = 0 ∧ statusWord State.reset = 0 ∧
  State.reset.l = 0 ∧ State.reset.r = 0 ∧ State.reset.c = 0 ∧ State.reset.d = 0 ∧ State.reset.rnd = 0 ∧
  State.reset.stg = 0 ∧ State.reset.nst = 0 ∧ State.reset.plan = ⟨⟨0, .dec⟩, ⟨0, .dec⟩, ⟨0, .dec⟩⟩ ∧
  State.reset.ksst = .initialized ∧ State.reset.pend = none

/-- 20_memory.md R58, 70_reset_and_hazards.md R272: the host issues its next command only into an empty `PEND`, and the block
takes it in the same step unless it is held (10_state.md R36, log 21). That the commands are a list, and that a host's entry of
the schedule is otherwise used up without effect, are the model's choices (logs 1 and 3). -/
def Obligations.HostIssuesOnlyWhenNothingPends : Prop :=
  ∀ s : State, nextAgent s = .host →
    (∀ t rest, s.pend = none → s.program = t :: rest →
      ∃ u, step s = .next u ∧ u.program = rest ∧ u.schedule = s.schedule.tail ∧
        (Held t.cmd s → u.pend = some t ∧ u.responses = s.responses) ∧
        (¬Held t.cmd s → u.pend = none ∧ ∃ r, u.responses = s.responses ++ [r])) ∧
    (s.pend ≠ none ∨ s.program = [] → step s = .next (scheduled s))

/-- 20_memory.md R58, 30_encoding.md R71: an accepted or refused command gets exactly one response, after those before it,
with `RDATA = 0` unless it is `OK`; no other step answers. -/
def Obligations.OneResponseForEachCommandTaken : Prop :=
  ∀ s t : State, step s = .next t →
    (∀ tr, Takes tr s → ¬Held tr.cmd s →
      t.pend = none ∧ ∃ r : Response, t.responses = s.responses ++ [r] ∧ (r.code ≠ .ok → r.data = 0)) ∧
    ((∀ tr, Takes tr s → Held tr.cmd s) → t.responses = s.responses)

/-- No step stops the machine. That is the model's choice: a fault is entered as a next state (log 15), and an agent with
nothing to do, the port with a held command among them, answers the same block state (logs 1 and 17). -/
def Obligations.EveryStepGoesOn : Prop :=
  ∀ s : State, ∃ t, step s = .next t

/-! ### Commands -/

/-- 45_commands.md R201. -/
def Obligations.NopOnlyAnswers : Prop :=
  ∀ (opnd : Word) (s : State), exec (.nop opnd) s = .next (answered .ok 0 s)

/-- 45_commands.md R202: the named key register and its valid flag are written, whatever the key, and nothing else. -/
def Obligations.LdkeyLoadsOneKeyRegister : Prop :=
  ∀ (key : Word) (s : State),
    exec (.ldkey 0 key) s = .next (answered .ok 0 { s with key := { s.key with e0 := key }, kvalid := s.kvalid ||| 0b001 }) ∧
    exec (.ldkey 1 key) s = .next (answered .ok 0 { s with key := { s.key with e1 := key }, kvalid := s.kvalid ||| 0b010 }) ∧
    exec (.ldkey 2 key) s = .next (answered .ok 0 { s with key := { s.key with e2 := key }, kvalid := s.kvalid ||| 0b100 })

/-- LDKEY at the reserved index, which the decoder rejects by the same cause (60_exceptions.md R223). That `exec` gives it the
fault entry too is the model's choice (log 14). -/
def Obligations.LdkeyOfIndexThreeFaults : Prop :=
  ∀ (key : Word) (s : State), exec (.ldkey 3 key) s = .next (faulted 2 s)

/-- 45_commands.md R203. -/
def Obligations.ClrkeyClearsAllKeys : Prop :=
  ∀ (opnd : Word) (s : State),
    exec (.clrkey opnd) s = .next (answered .ok 0 { s with key := ⟨0, 0, 0⟩, kvalid := 0 })

/-- 45_commands.md R204, 44_triple_sequencer.md R181, R185. -/
def Obligations.CryptSingleStartsOneStage : Prop :=
  ∀ (b : Word) (s : State), s.kvalid.getLsbD 0 = true →
    exec (.cryptESingle b) s = .next (started { s.plan with e0 := ⟨0, .enc⟩ } 1 s.key.e0 b s) ∧
    exec (.cryptDSingle b) s = .next (started { s.plan with e0 := ⟨0, .dec⟩ } 1 s.key.e0 b s)

/-- 45_commands.md R204, 44_triple_sequencer.md R182, R185. -/
def Obligations.CryptEee3StartsThreeStages : Prop :=
  ∀ (b : Word) (s : State), s.kvalid = 0b111 →
    exec (.cryptEEee3 b) s = .next (started ⟨⟨0, .enc⟩, ⟨1, .enc⟩, ⟨2, .enc⟩⟩ 3 s.key.e0 b s) ∧
    exec (.cryptDEee3 b) s = .next (started ⟨⟨2, .dec⟩, ⟨1, .dec⟩, ⟨0, .dec⟩⟩ 3 s.key.e2 b s)

/-- 45_commands.md R204, 44_triple_sequencer.md R183, R185, under each value of the open parameter. -/
def Obligations.CryptEde3StartsThreeStages : Prop :=
  ∀ (b : Word) (s : State), s.kvalid = 0b111 →
    (s.ede3Polarity = .ede →
      exec (.cryptEEde3 b) s = .next (started ⟨⟨0, .enc⟩, ⟨1, .dec⟩, ⟨2, .enc⟩⟩ 3 s.key.e0 b s) ∧
      exec (.cryptDEde3 b) s = .next (started ⟨⟨2, .dec⟩, ⟨1, .enc⟩, ⟨0, .dec⟩⟩ 3 s.key.e2 b s)) ∧
    (s.ede3Polarity = .ded →
      exec (.cryptEEde3 b) s = .next (started ⟨⟨0, .dec⟩, ⟨1, .enc⟩, ⟨2, .dec⟩⟩ 3 s.key.e0 b s) ∧
      exec (.cryptDEde3 b) s = .next (started ⟨⟨2, .enc⟩, ⟨1, .dec⟩, ⟨0, .enc⟩⟩ 3 s.key.e2 b s))

/-- 60_exceptions.md R226: a CRYPT with a needed key register not valid is rejected, starts nothing, and is no fault. -/
def Obligations.CryptWithoutKeysIsRejected : Prop :=
  ∀ (b : Word) (s : State),
    let rejected := Host.Outcome.next (answered .rejKey 0 { s with keyerr := true, done := false })
    (s.kvalid.getLsbD 0 = false → exec (.cryptESingle b) s = rejected ∧ exec (.cryptDSingle b) s = rejected) ∧
    (s.kvalid ≠ 0b111 →
      exec (.cryptEEee3 b) s = rejected ∧ exec (.cryptDEee3 b) s = rejected ∧
      exec (.cryptEEde3 b) s = rejected ∧ exec (.cryptDEde3 b) s = rejected)

/-- 45_commands.md R205. -/
def Obligations.RdoutAnswersDout : Prop :=
  ∀ (opnd : Word) (s : State), exec (.rdout opnd) s = .next (answered .ok s.dout s)

/-- 45_commands.md R206, 10_state.md R24, R30: RDSTAT answers `STATUS`, field by field, with zeros above. -/
def Obligations.RdstatAnswersStatusFields : Prop :=
  ∀ (opnd : Word) (s : State), ∃ w : Word, exec (.rdstat opnd) s = .next (answered .ok w s) ∧
    w.getLsbD 0 = s.busy ∧ w.getLsbD 1 = s.done ∧ w.getLsbD 2 = s.keyerr ∧ w.getLsbD 3 = s.fault ∧
    w.extractLsb' 4 4 = s.fcause ∧ w.extractLsb' 8 3 = s.kvalid ∧ w.extractLsb' 11 53 = 0

/-- 30_encoding.md R79: NOP, CLRKEY, RDOUT and RDSTAT ignore their operand. -/
def Obligations.UnusedOperandIsIgnored : Prop :=
  ∀ (a b : Word) (s : State),
    exec (.nop a) s = exec (.nop b) s ∧ exec (.clrkey a) s = exec (.clrkey b) s ∧
    exec (.rdout a) s = exec (.rdout b) s ∧ exec (.rdstat a) s = exec (.rdstat b) s

/-! ### The engine -/

/-- 44_triple_sequencer.md R186: the tick of rounds 0 to 14, and that the engine has no tick while `BUSY = 0`. That an engine's
entry of the schedule is then used up without effect is the model's choice (log 1). -/
def Obligations.TickPerformsOneRound : Prop :=
  ∀ s : State, nextAgent s = .engine →
    (s.busy = true → s.rnd.val < 15 → step s = .next { ticked (scheduled s) with rnd := s.rnd + 1 }) ∧
    (s.busy = false → step s = .next (scheduled s))

/-- 44_triple_sequencer.md R187: the tick of round 15, when the operation has another stage. -/
def Obligations.LastRoundStartsTheNextStage : Prop :=
  ∀ s : State, nextAgent s = .engine → s.busy = true → s.rnd = 15 → s.stg.val + 1 < s.nst.val →
    let u := ticked (scheduled s)
    let y := perm fp (u.l ++ u.r)
    let key := s.key.get (s.plan.get (s.stg + 1)).k
    step s = .next
      { u with
        stg := s.stg + 1, rnd := 0
        l := (perm ip y).extractLsb' 32 32, r := (perm ip y).extractLsb' 0 32
        c := (perm pc1 key).extractLsb' 28 28, d := (perm pc1 key).extractLsb' 0 28, ksst := .initialized }

/-- 44_triple_sequencer.md R187, R188: the tick of round 15 of the last stage. -/
def Obligations.LastStageCompletes : Prop :=
  ∀ s : State, nextAgent s = .engine → s.busy = true → s.rnd = 15 → s.nst.val ≤ s.stg.val + 1 →
    let u := ticked (scheduled s)
    step s = .next { u with dout := perm fp (u.l ++ u.r), busy := false, done := true }

/-- 10_state.md R23: `DOUT` is written only by reset and by the tick that completes an operation. -/
def Obligations.DoutIsWrittenOnlyByCompletion : Prop :=
  ∀ s t : State, step s = .next t → t.dout ≠ s.dout →
    nextAgent s = .reset ∨
    (nextAgent s = .engine ∧ s.busy = true ∧ s.rnd = 15 ∧ s.nst.val ≤ s.stg.val + 1 ∧ t.busy = false ∧ t.done = true)

/-- 10_state.md R21, R22, 70_reset_and_hazards.md R269: the key registers and their flags are written only by LDKEY, CLRKEY
and reset, and never while an operation runs, except by reset. -/
def Obligations.KeysAreWrittenOnlyByKeyCommands : Prop :=
  ∀ s t : State, step s = .next t → (t.key ≠ s.key ∨ t.kvalid ≠ s.kvalid) →
    nextAgent s = .reset ∨
    (s.busy = false ∧ s.fault = false ∧
      ∃ tr, Takes tr s ∧
        ((∃ k key, decode tr = .legal (.ldkey k key)) ∨ (∃ x, decode tr = .legal (.clrkey x))))

/-- 10_state.md R25 to R29: the only steps that set `BUSY`, `DONE`, `KEYERR` and `FAULT`. -/
def Obligations.StatusFlagsAreSetOnlyByTheirEvents : Prop :=
  ∀ s t : State, step s = .next t →
    (s.busy = false → t.busy = true →
      ∃ tr m td b, Takes tr s ∧ decode tr = .legal (cryptOf m td b) ∧ keysLoaded td s = true) ∧
    (s.done = false → t.done = true →
      nextAgent s = .engine ∧ s.busy = true ∧ s.rnd = 15 ∧ s.nst.val ≤ s.stg.val + 1) ∧
    (s.keyerr = false → t.keyerr = true →
      ∃ tr m td b, Takes tr s ∧ decode tr = .legal (cryptOf m td b) ∧ keysLoaded td s = false) ∧
    (s.fault = false → t.fault = true →
      s.busy = false ∧ ∃ tr c, Takes tr s ∧ decode tr = .illegal c ∧ t.fcause = c.code)

/-- 10_state.md R25 to R28: the only steps that clear `BUSY`, `DONE`, `KEYERR` and `FAULT`. -/
def Obligations.StatusFlagsAreClearedOnlyByTheirEvents : Prop :=
  ∀ s t : State, step s = .next t → nextAgent s ≠ .reset →
    (s.busy = true → t.busy = false →
      nextAgent s = .engine ∧ s.rnd = 15 ∧ s.nst.val ≤ s.stg.val + 1 ∧ t.done = true) ∧
    (s.done = true → t.done = false →
      ∃ tr m td b, Takes tr s ∧ decode tr = .legal (cryptOf m td b)) ∧
    (s.keyerr = true → t.keyerr = false →
      ∃ tr m td b, Takes tr s ∧ decode tr = .legal (cryptOf m td b) ∧ keysLoaded td s = true) ∧
    (s.fault = true → t.fault = true ∧ t.fcause = s.fcause)

/-- The open parameter never changes (log 5). -/
def Obligations.PolarityNeverChanges : Prop :=
  ∀ s t : State, step s = .next t → t.ede3Polarity = s.ede3Polarity

/-! ### Invariants and operations -/

/-- The reset state meets both invariants, whatever the host's program, the schedule and the open parameter. -/
def Obligations.ResetMeetsTheInvariant : Prop :=
  ∀ (program : List Transfer) (schedule : List Agent) (p : Polarity),
    Inv { State.reset with program := program, schedule := schedule, ede3Polarity := p } ∧
    PendHeld { State.reset with program := program, schedule := schedule, ede3Polarity := p }

/-- Every step keeps the invariant of Safety.lean: 60_exceptions.md R231 (no fault while an operation runs), 10_state.md R22,
R29, R31, and 42_key_schedule.md R146. -/
def Obligations.EveryStepKeepsTheInvariant : Prop :=
  ∀ s t : State, Inv s → step s = .next t → Inv t

/-- 70_reset_and_hazards.md R263: every state of every run that starts at reset meets both invariants. -/
def Obligations.EveryReachableStateMeetsTheInvariant : Prop :=
  ∀ s : State, Reachable s → Inv s ∧ PendHeld s

/-- 44_triple_sequencer.md R185: an accepted CRYPT puts its operation in progress, with all its ticks to come. -/
def Obligations.AcceptedCryptIsRunning : Prop :=
  ∀ (m : SubMode) (td : Comp) (b : Word) (s : State), s.fault = false → keysLoaded td s = true →
    ∃ t, exec (cryptOf m td b) s = .next t ∧ Running m td b t ∧ t.key = s.key ∧
      ticksLeft t = if td = .single then 16 else 48

/-- 44_triple_sequencer.md R190: while an operation runs, every step but reset either keeps it in progress, with the key
registers, `DOUT`, `DONE` and `KEYERR` as they were, or is the tick that completes it with `DOUT = run(b, m, td)`. A tick brings
the operation one tick nearer its end (R189) and no other step does. -/
def Obligations.RunningOperationStepsTowardsRun : Prop :=
  ∀ (m : SubMode) (td : Comp) (b : Word) (s t : State), Running m td b s → step s = .next t → nextAgent s ≠ .reset →
    (Running m td b t ∧ t.key = s.key ∧ t.kvalid = s.kvalid ∧ t.dout = s.dout ∧ t.done = s.done ∧ t.keyerr = s.keyerr ∧
      ticksLeft s = ticksLeft t + if nextAgent s = .engine then 1 else 0) ∨
    (nextAgent s = .engine ∧ ticksLeft s = 1 ∧ t.busy = false ∧ t.done = true ∧ t.key = s.key ∧
      t.dout = run s.ede3Polarity s.key b m td)

/-- 44_triple_sequencer.md R189: from its start, an operation takes exactly `16 × NST` ticks, and `BUSY` is 1 until the last. -/
def Obligations.OperationTakesSixteenTicksPerStage : Prop :=
  ∀ (m : SubMode) (td : Comp) (b : Word) (s : State) (n : Nat) (rest : List Agent),
    Running m td b s → s.stg = 0 → s.rnd = 0 → s.schedule = List.replicate n .engine ++ rest → n ≤ 16 * s.nst.val →
    s.nst.val = (if td = .single then 1 else 3) ∧
    ∃ t, core.run n s = .next t ∧
      (n < 16 * s.nst.val → t.busy = true ∧ t.dout = s.dout) ∧
      (n = 16 * s.nst.val → t.busy = false ∧ t.done = true ∧ t.dout = run s.ede3Polarity s.key b m td)

/-- 44_triple_sequencer.md R193: under every schedule without a reset, an operation in progress completes, with the result
that `run` gives; the bound is the schedule's length, one command that is never held, and the ticks. After the schedule the
order is the model's (log 2). -/
def Obligations.RunningOperationCompletes : Prop :=
  ∀ (m : SubMode) (td : Comp) (b : Word) (s : State), Running m td b s → .reset ∉ s.schedule →
    ∃ n t, n ≤ s.schedule.length + 1 + ticksLeft s ∧ core.run n s = .next t ∧
      t.busy = false ∧ t.done = true ∧ t.dout = run s.ede3Polarity s.key b m td

/-- 60_exceptions.md R238, R240, 10_state.md R21: what the host receives in a step does not depend on the key registers, on the
hidden state, or on the open parameter. -/
def Obligations.ResponsesHideKeysAndEngineState : Prop :=
  ∀ s₁ s₂ t₁ t₂ : State,
    s₁.kvalid = s₂.kvalid → s₁.dout = s₂.dout → s₁.busy = s₂.busy → s₁.done = s₂.done → s₁.keyerr = s₂.keyerr →
    s₁.fault = s₂.fault → s₁.fcause = s₂.fcause → s₁.pend = s₂.pend → s₁.schedule = s₂.schedule →
    s₁.program = s₂.program → s₁.responses = s₂.responses → step s₁ = .next t₁ → step s₂ = .next t₂ → t₁.responses = t₂.responses

/-! ### The cipher -/

/-- 40_bit_transform.md R101. -/
def Obligations.PermReadsTableBits : Prop :=
  ∀ (nIn nOut : Nat) (T : PermTable nIn nOut) (src : BitVec nIn) (i : Nat), i < nOut →
    (perm T src).getLsbD i = src.getLsbD (nIn - T.entries.getD (nOut - 1 - i) 0)

/-- 40_bit_transform.md R105. -/
def Obligations.FinalPermutationInvertsInitial : Prop :=
  (∀ x : Word, perm fp (perm ip x) = x ∧ perm ip (perm fp x) = x) ∧
  (∀ j : Fin 64, ip.entries.getD (fp.entries.getD j.val 0 - 1) 0 = j.val + 1)

/-- 40_bit_transform.md R110, of any table of the unit. -/
def Obligations.PermCopiesBits : Prop :=
  ∀ (nIn nOut : Nat) (T : PermTable nIn nOut),
    (∀ i, i < nOut → ∃ j, j < nIn ∧ ∀ x, (perm T x).getLsbD i = x.getLsbD j) ∧
    (∀ a b, perm T (a ^^^ b) = perm T a ^^^ perm T b) ∧
    perm T 0 = 0 ∧ perm T (BitVec.allOnes nIn) = BitVec.allOnes nOut

/-- 41_sbox.md R131. -/
def Obligations.SBoxRowsAreBijections : Prop :=
  (∀ (i : Fin 8) (row : BitVec 2) (v : BitVec 4),
    ((List.range 16).filter fun c => (sboxTable i).at row (BitVec.ofNat 4 c) = v).length = 1) ∧
  (∀ (i : Fin 8) (v : BitVec 4), ((List.range 64).filter fun x => sbox i (BitVec.ofNat 6 x) = v).length = 4)

/-- 43_feistel_engine.md R161. -/
def Obligations.SLayerPlacesNibbles : Prop :=
  ∀ (x : BitVec 48) (i : Fin 8),
    (slayer x).extractLsb' (28 - 4 * i.val) 4 = sbox i (x.extractLsb' (42 - 6 * i.val) 6)

/-- 42_key_schedule.md R147, with the table of cumulative left rotations (28 is no rotation). -/
def Obligations.EncryptScheduleReturnsToStart : Prop :=
  ∀ key : Word,
    keyTrace .enc key 16 = ksInit key ∧
    ∀ r : Fin 16,
      let total := [1, 2, 4, 6, 8, 10, 12, 14, 15, 17, 19, 21, 23, 25, 27, 28].getD r.val 0 % 28
      keyTrace .enc key (r.val + 1) = ⟨rotl28 (ksInit key).c total, rotl28 (ksInit key).d total⟩

/-- 42_key_schedule.md R148: decrypt round `r` has the round key of encrypt round `15 - r`. -/
def Obligations.DecryptKeysRunInReverse : Prop :=
  ∀ (key : Word) (r : Fin 16),
    roundKey (keyTrace .dec key (r.val + 1)) = roundKey (keyTrace .enc key (15 - r.val + 1))

/-- 42_key_schedule.md R149: the eight parity bits of a key reach no round key and no result. -/
def Obligations.ParityBitsHaveNoEffect : Prop :=
  ∀ k₁ k₂ : Word, (∀ i, i < 64 → i % 8 ≠ 0 → k₁.getLsbD i = k₂.getLsbD i) →
    (∀ m n, keyTrace m k₁ n = keyTrace m k₂ n) ∧ (∀ b m, transform b k₁ m = transform b k₂ m)

/-- 43_feistel_engine.md R166 and the first claim of R168: each sub-mode undoes the other. -/
def Obligations.TransformRoundTrips : Prop :=
  ∀ b key : Word,
    transform (transform b key .enc) key .dec = b ∧ transform (transform b key .dec) key .enc = b

/-- 43_feistel_engine.md R168: encrypting twice is not the identity, even under a key whose round keys are all equal. -/
def Obligations.EncryptTwiceIsNotIdentity : Prop :=
  let k : Word := 0x0101010101010101
  (∀ r : Fin 16, roundKey (keyTrace .enc k (r.val + 1)) = roundKey (keyTrace .enc k 1)) ∧
  transform (transform 0x0123456789ABCDEF k .enc) k .enc = 0x3D121F3FCF6D70F0

/-- 43_feistel_engine.md R167: the halves after decrypt round `r` are those after encrypt round `14 - r`, and after decrypt
round 15 those before the first encrypt round. -/
def Obligations.DecryptMirrorsEncrypt : Prop :=
  ∀ (b key : Word) (r : Fin 16),
    (stageTrace .dec (stageStart (transform b key .enc) key) (r.val + 1)).halves =
      (stageTrace .enc (stageStart b key) (15 - r.val)).halves

/-- 44_triple_sequencer.md R191: the triple round trip, for both compositions and both values of the open parameter, and the
decrypt plan as the encrypt plan's stages in reverse order, each with the opposite sub-mode. -/
def Obligations.TripleRoundTrip : Prop :=
  ∀ (p : Polarity) (td : Comp),
    planOf p .dec td = (planOf p .enc td).reverse.map (fun st => ⟨st.k, st.m.flip⟩) ∧
    ∀ (keys : Triple Word) (b : Word), run p keys (run p keys b .enc td) .dec td = b

/-- 44_triple_sequencer.md R192. -/
def Obligations.EqualKeysReduceEde3 : Prop :=
  (∀ k b : Word,
    run .ede ⟨k, k, k⟩ b .enc .eee3 = transform (transform (transform b k .enc) k .enc) k .enc ∧
    run .ded ⟨k, k, k⟩ b .enc .eee3 = transform (transform (transform b k .enc) k .enc) k .enc ∧
    run .ede ⟨k, k, k⟩ b .enc .ede3 = transform b k .enc ∧
    run .ded ⟨k, k, k⟩ b .enc .ede3 = transform b k .dec) ∧
  (∃ k b : Word, run .ede ⟨k, k, k⟩ b .enc .eee3 ≠ transform b k .enc)

/-- 20_memory.md R54: whatever packing the host chose, decrypting the bytes of a CRYPT gives back the bytes. -/
def Obligations.BufferBytesRoundTrip : Prop :=
  ∀ (packing : BlockPacking) (p : Polarity) (keys : Triple Word) (td : Comp) (bs : Bytes8),
    runBytes packing p keys .dec td (runBytes packing p keys .enc td bs) = bs

/-- The worked values of 40_bit_transform.md R103, 41_sbox.md R120, 43_feistel_engine.md R160 and R164, and
44_triple_sequencer.md's test keys (95_test_vectors.md 2.6). -/
def Obligations.WorkedExamplesOfTheSpec : Prop :=
  perm ip 0x0123456789ABCDEF = 0xCC00CCFFF0AAF0AA ∧
  sbox 0 0x21 = 15 ∧
  feistel 0 0 = 0xD8D8DBBC ∧
  feistel 0xF0AAF0AA 0x1B02EFFC7072 = 0x234AA9BB ∧
  transform 0x0123456789ABCDEF 0x133457799BBCDFF1 .enc = 0x4AD423A80F05780A ∧
  transform 0 0 .enc = 0x4C598ED6C272135B

/-! ### The end of a run -/

/-- 70_reset_and_hazards.md R273: a run ends at the first state where its three conditions hold, so it has one end state, and
one that ended in the fault state is never successful. Two points are the model's choice. Where a reset abandons the last
command, a CRYPT answered `OK`, the conditions hold after that reset and the run ends there, against R273's sentence that such a
run is not over until its operation completes (log 22). Where a reset discards a held command, that command never has its
response, so the run has no end (log 19). -/
def Obligations.RunEndsAtTheFirstEnd : Prop :=
  (∀ start e : State, EndsIn start e ↔
    ∃ n, core.run n start = .next e ∧ Ended start e ∧
      ∀ m, m < n → ∃ t, core.run m start = .next t ∧ ¬Ended start t) ∧
  (∀ start e e' : State, EndsIn start e → EndsIn start e' → e = e') ∧
  (∀ start e e' : State, EndsIn start e → e.fault = true → ¬SuccessfulEnd start e')

/-- From every idle state with nothing pending, under every schedule without a reset, the run ends, with one response for each
command of the list after the responses before it. The bound counts 50 steps for each command: an issue, a command step where
it was held, and at most 48 ticks. After the schedule the order is the model's (log 2). -/
def Obligations.EveryRunWithoutResetEnds : Prop :=
  ∀ start : State, start.busy = false → start.pend = none → .reset ∉ start.schedule →
    ∃ e, firstEnd start (start.schedule.length + 50 * start.program.length) start = some e ∧
      e.pend = none ∧ e.busy = false ∧ e.program = [] ∧
      e.responses = start.responses ++ runResponses start e ∧ (runResponses start e).length = start.program.length

/-! ### The pending command -/

/-- 10_state.md R36: `PEND` is non-empty only while its command is held. Every step keeps the invariant `PendHeld` of
Safety.lean, in states that meet `Inv`. That a command whose hold the completing tick lifted stands in `PEND` until its own
command step comes, is the model's reading of R36 beside 60_exceptions.md R236 (log 21). -/
def Obligations.PendHoldsOnlyHeldCommands : Prop :=
  ∀ s t : State, Inv s → PendHeld s → step s = .next t → PendHeld t
end

