-- ==== Sys2Proof/Laws/Datapath.lean ====
section
/-! SUPPORT. Small facts of the function units: the permutation loop bit by bit, and the traces of the key schedule and of a
stage. -/

namespace Sys2Proof.Machine

/-- One turn of the permutation loop, bit by bit: the new bit 0 is the named input bit, the rest move up. -/
theorem permShift_getLsbD {nIn nOut : Nat} (src : BitVec nIn) (y : BitVec nOut) (j i : Nat) :
    (permShift src y j).getLsbD i =
      (decide (i < nOut) && (if i = 0 then tb src j else y.getLsbD (i - 1))) := by
  unfold permShift
  rw [BitVec.getLsbD_or, BitVec.getLsbD_shiftLeft, BitVec.getLsbD_setWidth]
  rcases i with _ | i
  · simp
  · simp

/-- The loop over a list of entries: the last entry lands in bit 0, and the start value moves up by the list's length. -/
theorem foldl_permShift_getLsbD {nIn nOut : Nat} (src : BitVec nIn) (js : List Nat) (y : BitVec nOut) (i : Nat)
    (hi : i < nOut) :
    (js.foldl (permShift src) y).getLsbD i =
      if i < js.length then tb src (js.reverse.getD i 0) else y.getLsbD (i - js.length) := by
  induction js generalizing y with
  | nil => simp
  | cons j js ih =>
    rw [List.foldl_cons, ih, List.length_cons, List.reverse_cons]
    by_cases h : i < js.length
    · rw [if_pos h, if_pos (by omega), List.getD_append _ _ _ _ (by simpa using h)]
    · rw [if_neg h, permShift_getLsbD]
      by_cases h2 : i = js.length
      · have h0 : 0 < nOut := by omega
        subst h2; simp [h0]
      · rw [if_neg (show ¬(i - js.length = 0) by omega), if_neg (show ¬(i < js.length + 1) by omega),
          show i - js.length - 1 = i - (js.length + 1) by omega]
        simp [show i - js.length < nOut by omega]

/-- The key halves of a stage's trace are the key schedule's own trace, whatever the block. -/
theorem stageTrace_keys (m : SubMode) (block key : Word) (n : Nat) :
    (stageTrace m (stageStart block key) n).keys = keyTrace m key n := by
  induction n with
  | zero => rfl
  | succ n ih => simp only [stageTrace, stageRound, keyTrace, ih]

/-- The rounds of a sub-mode and of the opposite one undo each other. -/
theorem round_flip_round (m : SubMode) (rk : RoundKey) (h : Halves) : round m.flip rk (round m rk h) = h := by
  cases m <;> simp [SubMode.flip, round, roundEnc, roundDec]

@[simp] theorem flip_flip (m : SubMode) : m.flip.flip = m := by cases m <;> rfl

/-- Running a plan in two parts. -/
theorem runStages_append (keys : Triple Word) (as bs : List Stage) (block : Word) :
    runStages keys (as ++ bs) block = runStages keys bs (runStages keys as block) := by
  simp [runStages]

/-- A left rotation, bit by bit. -/
theorem rotl28_getLsbD (v : KeyHalf) (a i : Nat) (ha : a ≤ 28) (hi : i < 28) :
    (rotl28 v a).getLsbD i = v.getLsbD ((i + 28 - a) % 28) := by
  unfold rotl28
  simp only [BitVec.getLsbD_or, BitVec.getLsbD_shiftLeft, BitVec.getLsbD_ushiftRight]
  by_cases h : i < a
  · rw [Nat.mod_eq_of_lt (by omega)]
    simp [h, show 28 - a + i = i + 28 - a by omega]
  · rw [show i + 28 - a = (i - a) + 28 by omega, Nat.add_mod_right, Nat.mod_eq_of_lt (by omega),
      BitVec.getLsbD_of_ge v (28 - a + i) (by omega)]
    simp [h, hi]

/-- A right rotation, bit by bit. -/
theorem rotr28_getLsbD (v : KeyHalf) (a i : Nat) (ha : a ≤ 28) (hi : i < 28) :
    (rotr28 v a).getLsbD i = v.getLsbD ((i + a) % 28) := by
  unfold rotr28
  simp only [BitVec.getLsbD_or, BitVec.getLsbD_shiftLeft, BitVec.getLsbD_ushiftRight]
  by_cases h : i + a < 28
  · rw [Nat.mod_eq_of_lt h]
    simp [show i < 28 - a by omega, Nat.add_comm]
  · rw [show i + a = (i - (28 - a)) + 28 by omega, Nat.add_mod_right, Nat.mod_eq_of_lt (by omega),
      BitVec.getLsbD_of_ge v (a + i) (by omega)]
    simp [show ¬i < 28 - a by omega, hi]

/-- Left rotations add up, modulo the width. -/
theorem rotl28_rotl28 (v : KeyHalf) (a b : Nat) (ha : a ≤ 28) (hb : b ≤ 28) :
    rotl28 (rotl28 v a) b = rotl28 v ((a + b) % 28) := by
  have hm : (a + b) % 28 < 28 := Nat.mod_lt _ (by omega)
  apply BitVec.eq_of_getLsbD_eq
  intro i hi
  rw [rotl28_getLsbD _ _ _ hb hi, rotl28_getLsbD _ _ _ ha (Nat.mod_lt _ (by omega)),
    rotl28_getLsbD _ _ _ hm.le hi]
  congr 1
  omega

/-- A right rotation is the left rotation by the rest of the width. -/
theorem rotr28_eq_rotl28 (v : KeyHalf) (a : Nat) (ha : a ≤ 28) : rotr28 v a = rotl28 v ((28 - a) % 28) := by
  have hm : (28 - a) % 28 < 28 := Nat.mod_lt _ (by omega)
  apply BitVec.eq_of_getLsbD_eq
  intro i hi
  rw [rotr28_getLsbD _ _ _ ha hi, rotl28_getLsbD _ _ _ hm.le hi]
  congr 1
  omega

/-- A rotation by nothing (00_scope.md R12). -/
@[simp] theorem rotl28_zero (v : KeyHalf) : rotl28 v 0 = v := by
  apply BitVec.eq_of_getLsbD_eq
  intro i hi
  rw [rotl28_getLsbD _ _ _ (by omega) hi]
  congr 1
  omega

end Sys2Proof.Machine
end

