-- ==== Sys2Proof/Laws/Decode.lean ====
section
/-! SUPPORT. Decoding the two words that are never held (45_commands.md R200), and the parts of a transfer. -/

namespace Sys2Proof

theorem decode_nop_word (opnd : Word) : decode ⟨0x0000, opnd⟩ = .legal (.nop opnd) := by
  simp [decode, opOf, resv]

theorem decode_rdstat_word (opnd : Word) : decode ⟨0x5000, opnd⟩ = .legal (.rdstat opnd) := by
  simp [decode, opOf, resv]

/-- The sub-mode of a sub-mode's own bit. -/
@[simp] theorem subModeOfBits_bits (m : SubMode) : subModeOfBits m.bits = m := by
  cases m <;> rfl

/-- The composition of a composition's own bits. -/
@[simp] theorem compOfBits_bits (td : Comp) : compOfBits td.bits = some td := by
  cases td <;> rfl

/-- Only the reserved value selects no composition. -/
theorem compOfBits_eq_none (td : BitVec 2) : compOfBits td = none ↔ td = 3 := by
  revert td; decide

end Sys2Proof
end

