-- ==== Sys2Proof/Laws/State.lean ====
section
/-! SUPPORT. What each update of the state does to each field, so that no proof unfolds a record update. -/

namespace Sys2Proof.Machine

variable (s : State)

/-! `respond` -/

@[simp] theorem respond_key (x : RCode) (w : Word) : (respond x w s).key = s.key := rfl
@[simp] theorem respond_kvalid (x : RCode) (w : Word) : (respond x w s).kvalid = s.kvalid := rfl
@[simp] theorem respond_dout (x : RCode) (w : Word) : (respond x w s).dout = s.dout := rfl
@[simp] theorem respond_busy (x : RCode) (w : Word) : (respond x w s).busy = s.busy := rfl
@[simp] theorem respond_done (x : RCode) (w : Word) : (respond x w s).done = s.done := rfl
@[simp] theorem respond_keyerr (x : RCode) (w : Word) : (respond x w s).keyerr = s.keyerr := rfl
@[simp] theorem respond_fault (x : RCode) (w : Word) : (respond x w s).fault = s.fault := rfl
@[simp] theorem respond_fcause (x : RCode) (w : Word) : (respond x w s).fcause = s.fcause := rfl
@[simp] theorem respond_l (x : RCode) (w : Word) : (respond x w s).l = s.l := rfl
@[simp] theorem respond_r (x : RCode) (w : Word) : (respond x w s).r = s.r := rfl
@[simp] theorem respond_c (x : RCode) (w : Word) : (respond x w s).c = s.c := rfl
@[simp] theorem respond_d (x : RCode) (w : Word) : (respond x w s).d = s.d := rfl
@[simp] theorem respond_rnd (x : RCode) (w : Word) : (respond x w s).rnd = s.rnd := rfl
@[simp] theorem respond_stg (x : RCode) (w : Word) : (respond x w s).stg = s.stg := rfl
@[simp] theorem respond_nst (x : RCode) (w : Word) : (respond x w s).nst = s.nst := rfl
@[simp] theorem respond_plan (x : RCode) (w : Word) : (respond x w s).plan = s.plan := rfl
@[simp] theorem respond_ksst (x : RCode) (w : Word) : (respond x w s).ksst = s.ksst := rfl
@[simp] theorem respond_pend (x : RCode) (w : Word) : (respond x w s).pend = s.pend := rfl
@[simp] theorem respond_program (x : RCode) (w : Word) : (respond x w s).program = s.program := rfl
@[simp] theorem respond_responses (x : RCode) (w : Word) : (respond x w s).responses = s.responses ++ [{ code := x, data := w }] := rfl
@[simp] theorem respond_schedule (x : RCode) (w : Word) : (respond x w s).schedule = s.schedule := rfl
@[simp] theorem respond_ede3Polarity (x : RCode) (w : Word) : (respond x w s).ede3Polarity = s.ede3Polarity := rfl

/-! `writeKey` -/

@[simp] theorem writeKey_key (k : Fin 3) (w : Word) : (writeKey k w s).key = s.key.set k w := rfl
@[simp] theorem writeKey_kvalid (k : Fin 3) (w : Word) : (writeKey k w s).kvalid = s.kvalid ||| kvalidBit k := rfl
@[simp] theorem writeKey_dout (k : Fin 3) (w : Word) : (writeKey k w s).dout = s.dout := rfl
@[simp] theorem writeKey_busy (k : Fin 3) (w : Word) : (writeKey k w s).busy = s.busy := rfl
@[simp] theorem writeKey_done (k : Fin 3) (w : Word) : (writeKey k w s).done = s.done := rfl
@[simp] theorem writeKey_keyerr (k : Fin 3) (w : Word) : (writeKey k w s).keyerr = s.keyerr := rfl
@[simp] theorem writeKey_fault (k : Fin 3) (w : Word) : (writeKey k w s).fault = s.fault := rfl
@[simp] theorem writeKey_fcause (k : Fin 3) (w : Word) : (writeKey k w s).fcause = s.fcause := rfl
@[simp] theorem writeKey_l (k : Fin 3) (w : Word) : (writeKey k w s).l = s.l := rfl
@[simp] theorem writeKey_r (k : Fin 3) (w : Word) : (writeKey k w s).r = s.r := rfl
@[simp] theorem writeKey_c (k : Fin 3) (w : Word) : (writeKey k w s).c = s.c := rfl
@[simp] theorem writeKey_d (k : Fin 3) (w : Word) : (writeKey k w s).d = s.d := rfl
@[simp] theorem writeKey_rnd (k : Fin 3) (w : Word) : (writeKey k w s).rnd = s.rnd := rfl
@[simp] theorem writeKey_stg (k : Fin 3) (w : Word) : (writeKey k w s).stg = s.stg := rfl
@[simp] theorem writeKey_nst (k : Fin 3) (w : Word) : (writeKey k w s).nst = s.nst := rfl
@[simp] theorem writeKey_plan (k : Fin 3) (w : Word) : (writeKey k w s).plan = s.plan := rfl
@[simp] theorem writeKey_ksst (k : Fin 3) (w : Word) : (writeKey k w s).ksst = s.ksst := rfl
@[simp] theorem writeKey_pend (k : Fin 3) (w : Word) : (writeKey k w s).pend = s.pend := rfl
@[simp] theorem writeKey_program (k : Fin 3) (w : Word) : (writeKey k w s).program = s.program := rfl
@[simp] theorem writeKey_responses (k : Fin 3) (w : Word) : (writeKey k w s).responses = s.responses := rfl
@[simp] theorem writeKey_schedule (k : Fin 3) (w : Word) : (writeKey k w s).schedule = s.schedule := rfl
@[simp] theorem writeKey_ede3Polarity (k : Fin 3) (w : Word) : (writeKey k w s).ede3Polarity = s.ede3Polarity := rfl

/-! `clearKeys` -/

@[simp] theorem clearKeys_key : (clearKeys s).key = { e0 := 0, e1 := 0, e2 := 0 } := rfl
@[simp] theorem clearKeys_kvalid : (clearKeys s).kvalid = 0 := rfl
@[simp] theorem clearKeys_dout : (clearKeys s).dout = s.dout := rfl
@[simp] theorem clearKeys_busy : (clearKeys s).busy = s.busy := rfl
@[simp] theorem clearKeys_done : (clearKeys s).done = s.done := rfl
@[simp] theorem clearKeys_keyerr : (clearKeys s).keyerr = s.keyerr := rfl
@[simp] theorem clearKeys_fault : (clearKeys s).fault = s.fault := rfl
@[simp] theorem clearKeys_fcause : (clearKeys s).fcause = s.fcause := rfl
@[simp] theorem clearKeys_l : (clearKeys s).l = s.l := rfl
@[simp] theorem clearKeys_r : (clearKeys s).r = s.r := rfl
@[simp] theorem clearKeys_c : (clearKeys s).c = s.c := rfl
@[simp] theorem clearKeys_d : (clearKeys s).d = s.d := rfl
@[simp] theorem clearKeys_rnd : (clearKeys s).rnd = s.rnd := rfl
@[simp] theorem clearKeys_stg : (clearKeys s).stg = s.stg := rfl
@[simp] theorem clearKeys_nst : (clearKeys s).nst = s.nst := rfl
@[simp] theorem clearKeys_plan : (clearKeys s).plan = s.plan := rfl
@[simp] theorem clearKeys_ksst : (clearKeys s).ksst = s.ksst := rfl
@[simp] theorem clearKeys_pend : (clearKeys s).pend = s.pend := rfl
@[simp] theorem clearKeys_program : (clearKeys s).program = s.program := rfl
@[simp] theorem clearKeys_responses : (clearKeys s).responses = s.responses := rfl
@[simp] theorem clearKeys_schedule : (clearKeys s).schedule = s.schedule := rfl
@[simp] theorem clearKeys_ede3Polarity : (clearKeys s).ede3Polarity = s.ede3Polarity := rfl

/-! `raiseFault` -/

@[simp] theorem raiseFault_key (x : FaultCause) : (raiseFault x s).key = s.key := rfl
@[simp] theorem raiseFault_kvalid (x : FaultCause) : (raiseFault x s).kvalid = s.kvalid := rfl
@[simp] theorem raiseFault_dout (x : FaultCause) : (raiseFault x s).dout = s.dout := rfl
@[simp] theorem raiseFault_busy (x : FaultCause) : (raiseFault x s).busy = s.busy := rfl
@[simp] theorem raiseFault_done (x : FaultCause) : (raiseFault x s).done = s.done := rfl
@[simp] theorem raiseFault_keyerr (x : FaultCause) : (raiseFault x s).keyerr = s.keyerr := rfl
@[simp] theorem raiseFault_fault (x : FaultCause) : (raiseFault x s).fault = true := rfl
@[simp] theorem raiseFault_fcause (x : FaultCause) : (raiseFault x s).fcause = x.code := rfl
@[simp] theorem raiseFault_l (x : FaultCause) : (raiseFault x s).l = s.l := rfl
@[simp] theorem raiseFault_r (x : FaultCause) : (raiseFault x s).r = s.r := rfl
@[simp] theorem raiseFault_c (x : FaultCause) : (raiseFault x s).c = s.c := rfl
@[simp] theorem raiseFault_d (x : FaultCause) : (raiseFault x s).d = s.d := rfl
@[simp] theorem raiseFault_rnd (x : FaultCause) : (raiseFault x s).rnd = s.rnd := rfl
@[simp] theorem raiseFault_stg (x : FaultCause) : (raiseFault x s).stg = s.stg := rfl
@[simp] theorem raiseFault_nst (x : FaultCause) : (raiseFault x s).nst = s.nst := rfl
@[simp] theorem raiseFault_plan (x : FaultCause) : (raiseFault x s).plan = s.plan := rfl
@[simp] theorem raiseFault_ksst (x : FaultCause) : (raiseFault x s).ksst = s.ksst := rfl
@[simp] theorem raiseFault_pend (x : FaultCause) : (raiseFault x s).pend = s.pend := rfl
@[simp] theorem raiseFault_program (x : FaultCause) : (raiseFault x s).program = s.program := rfl
@[simp] theorem raiseFault_responses (x : FaultCause) : (raiseFault x s).responses = s.responses ++ [{ code := .faulted, data := 0 }] := rfl
@[simp] theorem raiseFault_schedule (x : FaultCause) : (raiseFault x s).schedule = s.schedule := rfl
@[simp] theorem raiseFault_ede3Polarity (x : FaultCause) : (raiseFault x s).ede3Polarity = s.ede3Polarity := rfl

/-! `refuse` -/

@[simp] theorem refuse_key : (refuse s).key = s.key := rfl
@[simp] theorem refuse_kvalid : (refuse s).kvalid = s.kvalid := rfl
@[simp] theorem refuse_dout : (refuse s).dout = s.dout := rfl
@[simp] theorem refuse_busy : (refuse s).busy = s.busy := rfl
@[simp] theorem refuse_done : (refuse s).done = s.done := rfl
@[simp] theorem refuse_keyerr : (refuse s).keyerr = s.keyerr := rfl
@[simp] theorem refuse_fault : (refuse s).fault = s.fault := rfl
@[simp] theorem refuse_fcause : (refuse s).fcause = s.fcause := rfl
@[simp] theorem refuse_l : (refuse s).l = s.l := rfl
@[simp] theorem refuse_r : (refuse s).r = s.r := rfl
@[simp] theorem refuse_c : (refuse s).c = s.c := rfl
@[simp] theorem refuse_d : (refuse s).d = s.d := rfl
@[simp] theorem refuse_rnd : (refuse s).rnd = s.rnd := rfl
@[simp] theorem refuse_stg : (refuse s).stg = s.stg := rfl
@[simp] theorem refuse_nst : (refuse s).nst = s.nst := rfl
@[simp] theorem refuse_plan : (refuse s).plan = s.plan := rfl
@[simp] theorem refuse_ksst : (refuse s).ksst = s.ksst := rfl
@[simp] theorem refuse_pend : (refuse s).pend = s.pend := rfl
@[simp] theorem refuse_program : (refuse s).program = s.program := rfl
@[simp] theorem refuse_responses : (refuse s).responses = s.responses ++ [{ code := .faulted, data := 0 }] := rfl
@[simp] theorem refuse_schedule : (refuse s).schedule = s.schedule := rfl
@[simp] theorem refuse_ede3Polarity : (refuse s).ede3Polarity = s.ede3Polarity := rfl

/-! `rejectKey` -/

@[simp] theorem rejectKey_key : (rejectKey s).key = s.key := rfl
@[simp] theorem rejectKey_kvalid : (rejectKey s).kvalid = s.kvalid := rfl
@[simp] theorem rejectKey_dout : (rejectKey s).dout = s.dout := rfl
@[simp] theorem rejectKey_busy : (rejectKey s).busy = s.busy := rfl
@[simp] theorem rejectKey_done : (rejectKey s).done = false := rfl
@[simp] theorem rejectKey_keyerr : (rejectKey s).keyerr = true := rfl
@[simp] theorem rejectKey_fault : (rejectKey s).fault = s.fault := rfl
@[simp] theorem rejectKey_fcause : (rejectKey s).fcause = s.fcause := rfl
@[simp] theorem rejectKey_l : (rejectKey s).l = s.l := rfl
@[simp] theorem rejectKey_r : (rejectKey s).r = s.r := rfl
@[simp] theorem rejectKey_c : (rejectKey s).c = s.c := rfl
@[simp] theorem rejectKey_d : (rejectKey s).d = s.d := rfl
@[simp] theorem rejectKey_rnd : (rejectKey s).rnd = s.rnd := rfl
@[simp] theorem rejectKey_stg : (rejectKey s).stg = s.stg := rfl
@[simp] theorem rejectKey_nst : (rejectKey s).nst = s.nst := rfl
@[simp] theorem rejectKey_plan : (rejectKey s).plan = s.plan := rfl
@[simp] theorem rejectKey_ksst : (rejectKey s).ksst = s.ksst := rfl
@[simp] theorem rejectKey_pend : (rejectKey s).pend = s.pend := rfl
@[simp] theorem rejectKey_program : (rejectKey s).program = s.program := rfl
@[simp] theorem rejectKey_responses : (rejectKey s).responses = s.responses ++ [{ code := .rejKey, data := 0 }] := rfl
@[simp] theorem rejectKey_schedule : (rejectKey s).schedule = s.schedule := rfl
@[simp] theorem rejectKey_ede3Polarity : (rejectKey s).ede3Polarity = s.ede3Polarity := rfl

/-! `takePend` -/

@[simp] theorem takePend_key : (takePend s).key = s.key := rfl
@[simp] theorem takePend_kvalid : (takePend s).kvalid = s.kvalid := rfl
@[simp] theorem takePend_dout : (takePend s).dout = s.dout := rfl
@[simp] theorem takePend_busy : (takePend s).busy = s.busy := rfl
@[simp] theorem takePend_done : (takePend s).done = s.done := rfl
@[simp] theorem takePend_keyerr : (takePend s).keyerr = s.keyerr := rfl
@[simp] theorem takePend_fault : (takePend s).fault = s.fault := rfl
@[simp] theorem takePend_fcause : (takePend s).fcause = s.fcause := rfl
@[simp] theorem takePend_l : (takePend s).l = s.l := rfl
@[simp] theorem takePend_r : (takePend s).r = s.r := rfl
@[simp] theorem takePend_c : (takePend s).c = s.c := rfl
@[simp] theorem takePend_d : (takePend s).d = s.d := rfl
@[simp] theorem takePend_rnd : (takePend s).rnd = s.rnd := rfl
@[simp] theorem takePend_stg : (takePend s).stg = s.stg := rfl
@[simp] theorem takePend_nst : (takePend s).nst = s.nst := rfl
@[simp] theorem takePend_plan : (takePend s).plan = s.plan := rfl
@[simp] theorem takePend_ksst : (takePend s).ksst = s.ksst := rfl
@[simp] theorem takePend_pend : (takePend s).pend = none := rfl
@[simp] theorem takePend_program : (takePend s).program = s.program := rfl
@[simp] theorem takePend_responses : (takePend s).responses = s.responses := rfl
@[simp] theorem takePend_schedule : (takePend s).schedule = s.schedule := rfl
@[simp] theorem takePend_ede3Polarity : (takePend s).ede3Polarity = s.ede3Polarity := rfl

/-! `popSchedule` -/

@[simp] theorem popSchedule_key : (popSchedule s).key = s.key := rfl
@[simp] theorem popSchedule_kvalid : (popSchedule s).kvalid = s.kvalid := rfl
@[simp] theorem popSchedule_dout : (popSchedule s).dout = s.dout := rfl
@[simp] theorem popSchedule_busy : (popSchedule s).busy = s.busy := rfl
@[simp] theorem popSchedule_done : (popSchedule s).done = s.done := rfl
@[simp] theorem popSchedule_keyerr : (popSchedule s).keyerr = s.keyerr := rfl
@[simp] theorem popSchedule_fault : (popSchedule s).fault = s.fault := rfl
@[simp] theorem popSchedule_fcause : (popSchedule s).fcause = s.fcause := rfl
@[simp] theorem popSchedule_l : (popSchedule s).l = s.l := rfl
@[simp] theorem popSchedule_r : (popSchedule s).r = s.r := rfl
@[simp] theorem popSchedule_c : (popSchedule s).c = s.c := rfl
@[simp] theorem popSchedule_d : (popSchedule s).d = s.d := rfl
@[simp] theorem popSchedule_rnd : (popSchedule s).rnd = s.rnd := rfl
@[simp] theorem popSchedule_stg : (popSchedule s).stg = s.stg := rfl
@[simp] theorem popSchedule_nst : (popSchedule s).nst = s.nst := rfl
@[simp] theorem popSchedule_plan : (popSchedule s).plan = s.plan := rfl
@[simp] theorem popSchedule_ksst : (popSchedule s).ksst = s.ksst := rfl
@[simp] theorem popSchedule_pend : (popSchedule s).pend = s.pend := rfl
@[simp] theorem popSchedule_program : (popSchedule s).program = s.program := rfl
@[simp] theorem popSchedule_responses : (popSchedule s).responses = s.responses := rfl
@[simp] theorem popSchedule_schedule : (popSchedule s).schedule = s.schedule.tail := rfl
@[simp] theorem popSchedule_ede3Polarity : (popSchedule s).ede3Polarity = s.ede3Polarity := rfl

/-! `taken` -/

@[simp] theorem taken_key : (taken s).key = s.key := rfl
@[simp] theorem taken_kvalid : (taken s).kvalid = s.kvalid := rfl
@[simp] theorem taken_dout : (taken s).dout = s.dout := rfl
@[simp] theorem taken_busy : (taken s).busy = s.busy := rfl
@[simp] theorem taken_done : (taken s).done = s.done := rfl
@[simp] theorem taken_keyerr : (taken s).keyerr = s.keyerr := rfl
@[simp] theorem taken_fault : (taken s).fault = s.fault := rfl
@[simp] theorem taken_fcause : (taken s).fcause = s.fcause := rfl
@[simp] theorem taken_l : (taken s).l = s.l := rfl
@[simp] theorem taken_r : (taken s).r = s.r := rfl
@[simp] theorem taken_c : (taken s).c = s.c := rfl
@[simp] theorem taken_d : (taken s).d = s.d := rfl
@[simp] theorem taken_rnd : (taken s).rnd = s.rnd := rfl
@[simp] theorem taken_stg : (taken s).stg = s.stg := rfl
@[simp] theorem taken_nst : (taken s).nst = s.nst := rfl
@[simp] theorem taken_plan : (taken s).plan = s.plan := rfl
@[simp] theorem taken_ksst : (taken s).ksst = s.ksst := rfl
@[simp] theorem taken_pend : (taken s).pend = none := rfl
@[simp] theorem taken_program : (taken s).program = if nextAgent s = .host then s.program.tail else s.program := rfl
@[simp] theorem taken_responses : (taken s).responses = s.responses := rfl
@[simp] theorem taken_schedule : (taken s).schedule = s.schedule.tail := rfl
@[simp] theorem taken_ede3Polarity : (taken s).ede3Polarity = s.ede3Polarity := rfl

/-! `flagStarted` -/

@[simp] theorem flagStarted_key : (flagStarted s).key = s.key := rfl
@[simp] theorem flagStarted_kvalid : (flagStarted s).kvalid = s.kvalid := rfl
@[simp] theorem flagStarted_dout : (flagStarted s).dout = s.dout := rfl
@[simp] theorem flagStarted_busy : (flagStarted s).busy = true := rfl
@[simp] theorem flagStarted_done : (flagStarted s).done = false := rfl
@[simp] theorem flagStarted_keyerr : (flagStarted s).keyerr = false := rfl
@[simp] theorem flagStarted_fault : (flagStarted s).fault = s.fault := rfl
@[simp] theorem flagStarted_fcause : (flagStarted s).fcause = s.fcause := rfl
@[simp] theorem flagStarted_l : (flagStarted s).l = s.l := rfl
@[simp] theorem flagStarted_r : (flagStarted s).r = s.r := rfl
@[simp] theorem flagStarted_c : (flagStarted s).c = s.c := rfl
@[simp] theorem flagStarted_d : (flagStarted s).d = s.d := rfl
@[simp] theorem flagStarted_rnd : (flagStarted s).rnd = s.rnd := rfl
@[simp] theorem flagStarted_stg : (flagStarted s).stg = s.stg := rfl
@[simp] theorem flagStarted_nst : (flagStarted s).nst = s.nst := rfl
@[simp] theorem flagStarted_plan : (flagStarted s).plan = s.plan := rfl
@[simp] theorem flagStarted_ksst : (flagStarted s).ksst = s.ksst := rfl
@[simp] theorem flagStarted_pend : (flagStarted s).pend = s.pend := rfl
@[simp] theorem flagStarted_program : (flagStarted s).program = s.program := rfl
@[simp] theorem flagStarted_responses : (flagStarted s).responses = s.responses := rfl
@[simp] theorem flagStarted_schedule : (flagStarted s).schedule = s.schedule := rfl
@[simp] theorem flagStarted_ede3Polarity : (flagStarted s).ede3Polarity = s.ede3Polarity := rfl

/-! `flagRejected` -/

@[simp] theorem flagRejected_key : (flagRejected s).key = s.key := rfl
@[simp] theorem flagRejected_kvalid : (flagRejected s).kvalid = s.kvalid := rfl
@[simp] theorem flagRejected_dout : (flagRejected s).dout = s.dout := rfl
@[simp] theorem flagRejected_busy : (flagRejected s).busy = s.busy := rfl
@[simp] theorem flagRejected_done : (flagRejected s).done = false := rfl
@[simp] theorem flagRejected_keyerr : (flagRejected s).keyerr = true := rfl
@[simp] theorem flagRejected_fault : (flagRejected s).fault = s.fault := rfl
@[simp] theorem flagRejected_fcause : (flagRejected s).fcause = s.fcause := rfl
@[simp] theorem flagRejected_l : (flagRejected s).l = s.l := rfl
@[simp] theorem flagRejected_r : (flagRejected s).r = s.r := rfl
@[simp] theorem flagRejected_c : (flagRejected s).c = s.c := rfl
@[simp] theorem flagRejected_d : (flagRejected s).d = s.d := rfl
@[simp] theorem flagRejected_rnd : (flagRejected s).rnd = s.rnd := rfl
@[simp] theorem flagRejected_stg : (flagRejected s).stg = s.stg := rfl
@[simp] theorem flagRejected_nst : (flagRejected s).nst = s.nst := rfl
@[simp] theorem flagRejected_plan : (flagRejected s).plan = s.plan := rfl
@[simp] theorem flagRejected_ksst : (flagRejected s).ksst = s.ksst := rfl
@[simp] theorem flagRejected_pend : (flagRejected s).pend = s.pend := rfl
@[simp] theorem flagRejected_program : (flagRejected s).program = s.program := rfl
@[simp] theorem flagRejected_responses : (flagRejected s).responses = s.responses := rfl
@[simp] theorem flagRejected_schedule : (flagRejected s).schedule = s.schedule := rfl
@[simp] theorem flagRejected_ede3Polarity : (flagRejected s).ede3Polarity = s.ede3Polarity := rfl

/-! `flagCompleted` -/

@[simp] theorem flagCompleted_key : (flagCompleted s).key = s.key := rfl
@[simp] theorem flagCompleted_kvalid : (flagCompleted s).kvalid = s.kvalid := rfl
@[simp] theorem flagCompleted_dout : (flagCompleted s).dout = s.dout := rfl
@[simp] theorem flagCompleted_busy : (flagCompleted s).busy = false := rfl
@[simp] theorem flagCompleted_done : (flagCompleted s).done = true := rfl
@[simp] theorem flagCompleted_keyerr : (flagCompleted s).keyerr = s.keyerr := rfl
@[simp] theorem flagCompleted_fault : (flagCompleted s).fault = s.fault := rfl
@[simp] theorem flagCompleted_fcause : (flagCompleted s).fcause = s.fcause := rfl
@[simp] theorem flagCompleted_l : (flagCompleted s).l = s.l := rfl
@[simp] theorem flagCompleted_r : (flagCompleted s).r = s.r := rfl
@[simp] theorem flagCompleted_c : (flagCompleted s).c = s.c := rfl
@[simp] theorem flagCompleted_d : (flagCompleted s).d = s.d := rfl
@[simp] theorem flagCompleted_rnd : (flagCompleted s).rnd = s.rnd := rfl
@[simp] theorem flagCompleted_stg : (flagCompleted s).stg = s.stg := rfl
@[simp] theorem flagCompleted_nst : (flagCompleted s).nst = s.nst := rfl
@[simp] theorem flagCompleted_plan : (flagCompleted s).plan = s.plan := rfl
@[simp] theorem flagCompleted_ksst : (flagCompleted s).ksst = s.ksst := rfl
@[simp] theorem flagCompleted_pend : (flagCompleted s).pend = s.pend := rfl
@[simp] theorem flagCompleted_program : (flagCompleted s).program = s.program := rfl
@[simp] theorem flagCompleted_responses : (flagCompleted s).responses = s.responses := rfl
@[simp] theorem flagCompleted_schedule : (flagCompleted s).schedule = s.schedule := rfl
@[simp] theorem flagCompleted_ede3Polarity : (flagCompleted s).ede3Polarity = s.ede3Polarity := rfl

/-! `complete` -/

@[simp] theorem complete_key (w : Word) : (complete w s).key = s.key := rfl
@[simp] theorem complete_kvalid (w : Word) : (complete w s).kvalid = s.kvalid := rfl
@[simp] theorem complete_dout (w : Word) : (complete w s).dout = w := rfl
@[simp] theorem complete_busy (w : Word) : (complete w s).busy = false := rfl
@[simp] theorem complete_done (w : Word) : (complete w s).done = true := rfl
@[simp] theorem complete_keyerr (w : Word) : (complete w s).keyerr = s.keyerr := rfl
@[simp] theorem complete_fault (w : Word) : (complete w s).fault = s.fault := rfl
@[simp] theorem complete_fcause (w : Word) : (complete w s).fcause = s.fcause := rfl
@[simp] theorem complete_l (w : Word) : (complete w s).l = s.l := rfl
@[simp] theorem complete_r (w : Word) : (complete w s).r = s.r := rfl
@[simp] theorem complete_c (w : Word) : (complete w s).c = s.c := rfl
@[simp] theorem complete_d (w : Word) : (complete w s).d = s.d := rfl
@[simp] theorem complete_rnd (w : Word) : (complete w s).rnd = s.rnd := rfl
@[simp] theorem complete_stg (w : Word) : (complete w s).stg = s.stg := rfl
@[simp] theorem complete_nst (w : Word) : (complete w s).nst = s.nst := rfl
@[simp] theorem complete_plan (w : Word) : (complete w s).plan = s.plan := rfl
@[simp] theorem complete_ksst (w : Word) : (complete w s).ksst = s.ksst := rfl
@[simp] theorem complete_pend (w : Word) : (complete w s).pend = s.pend := rfl
@[simp] theorem complete_program (w : Word) : (complete w s).program = s.program := rfl
@[simp] theorem complete_responses (w : Word) : (complete w s).responses = s.responses := rfl
@[simp] theorem complete_schedule (w : Word) : (complete w s).schedule = s.schedule := rfl
@[simp] theorem complete_ede3Polarity (w : Word) : (complete w s).ede3Polarity = s.ede3Polarity := rfl

/-! `writeDatapath` -/

@[simp] theorem writeDatapath_key (p : Datapath) (k : KeySchedState) : (writeDatapath p k s).key = s.key := rfl
@[simp] theorem writeDatapath_kvalid (p : Datapath) (k : KeySchedState) : (writeDatapath p k s).kvalid = s.kvalid := rfl
@[simp] theorem writeDatapath_dout (p : Datapath) (k : KeySchedState) : (writeDatapath p k s).dout = s.dout := rfl
@[simp] theorem writeDatapath_busy (p : Datapath) (k : KeySchedState) : (writeDatapath p k s).busy = s.busy := rfl
@[simp] theorem writeDatapath_done (p : Datapath) (k : KeySchedState) : (writeDatapath p k s).done = s.done := rfl
@[simp] theorem writeDatapath_keyerr (p : Datapath) (k : KeySchedState) : (writeDatapath p k s).keyerr = s.keyerr := rfl
@[simp] theorem writeDatapath_fault (p : Datapath) (k : KeySchedState) : (writeDatapath p k s).fault = s.fault := rfl
@[simp] theorem writeDatapath_fcause (p : Datapath) (k : KeySchedState) : (writeDatapath p k s).fcause = s.fcause := rfl
@[simp] theorem writeDatapath_l (p : Datapath) (k : KeySchedState) : (writeDatapath p k s).l = p.halves.l := rfl
@[simp] theorem writeDatapath_r (p : Datapath) (k : KeySchedState) : (writeDatapath p k s).r = p.halves.r := rfl
@[simp] theorem writeDatapath_c (p : Datapath) (k : KeySchedState) : (writeDatapath p k s).c = p.keys.c := rfl
@[simp] theorem writeDatapath_d (p : Datapath) (k : KeySchedState) : (writeDatapath p k s).d = p.keys.d := rfl
@[simp] theorem writeDatapath_rnd (p : Datapath) (k : KeySchedState) : (writeDatapath p k s).rnd = s.rnd := rfl
@[simp] theorem writeDatapath_stg (p : Datapath) (k : KeySchedState) : (writeDatapath p k s).stg = s.stg := rfl
@[simp] theorem writeDatapath_nst (p : Datapath) (k : KeySchedState) : (writeDatapath p k s).nst = s.nst := rfl
@[simp] theorem writeDatapath_plan (p : Datapath) (k : KeySchedState) : (writeDatapath p k s).plan = s.plan := rfl
@[simp] theorem writeDatapath_ksst (p : Datapath) (k : KeySchedState) : (writeDatapath p k s).ksst = k := rfl
@[simp] theorem writeDatapath_pend (p : Datapath) (k : KeySchedState) : (writeDatapath p k s).pend = s.pend := rfl
@[simp] theorem writeDatapath_program (p : Datapath) (k : KeySchedState) : (writeDatapath p k s).program = s.program := rfl
@[simp] theorem writeDatapath_responses (p : Datapath) (k : KeySchedState) : (writeDatapath p k s).responses = s.responses := rfl
@[simp] theorem writeDatapath_schedule (p : Datapath) (k : KeySchedState) : (writeDatapath p k s).schedule = s.schedule := rfl
@[simp] theorem writeDatapath_ede3Polarity (p : Datapath) (k : KeySchedState) : (writeDatapath p k s).ede3Polarity = s.ede3Polarity := rfl

/-! `resetStep` -/

@[simp] theorem resetStep_key : (resetStep s).key = { e0 := 0, e1 := 0, e2 := 0 } := rfl
@[simp] theorem resetStep_kvalid : (resetStep s).kvalid = 0 := rfl
@[simp] theorem resetStep_dout : (resetStep s).dout = 0 := rfl
@[simp] theorem resetStep_busy : (resetStep s).busy = false := rfl
@[simp] theorem resetStep_done : (resetStep s).done = false := rfl
@[simp] theorem resetStep_keyerr : (resetStep s).keyerr = false := rfl
@[simp] theorem resetStep_fault : (resetStep s).fault = false := rfl
@[simp] theorem resetStep_fcause : (resetStep s).fcause = 0 := rfl
@[simp] theorem resetStep_l : (resetStep s).l = 0 := rfl
@[simp] theorem resetStep_r : (resetStep s).r = 0 := rfl
@[simp] theorem resetStep_c : (resetStep s).c = 0 := rfl
@[simp] theorem resetStep_d : (resetStep s).d = 0 := rfl
@[simp] theorem resetStep_rnd : (resetStep s).rnd = 0 := rfl
@[simp] theorem resetStep_stg : (resetStep s).stg = 0 := rfl
@[simp] theorem resetStep_nst : (resetStep s).nst = 0 := rfl
@[simp] theorem resetStep_plan : (resetStep s).plan = { e0 := ⟨0, .dec⟩, e1 := ⟨0, .dec⟩, e2 := ⟨0, .dec⟩ } := rfl
@[simp] theorem resetStep_ksst : (resetStep s).ksst = .initialized := rfl
@[simp] theorem resetStep_pend : (resetStep s).pend = none := rfl
@[simp] theorem resetStep_program : (resetStep s).program = s.program := rfl
@[simp] theorem resetStep_responses : (resetStep s).responses = s.responses := rfl
@[simp] theorem resetStep_schedule : (resetStep s).schedule = s.schedule := rfl
@[simp] theorem resetStep_ede3Polarity : (resetStep s).ede3Polarity = s.ede3Polarity := rfl

/-! The registers of the datapath, read together -/

@[simp] theorem writeDatapath_datapath (p : Datapath) (k : KeySchedState) : (writeDatapath p k s).datapath = p := rfl

/-! The key registers and the plan, by index -/

@[simp] theorem get_set_same {α : Type} (t : Triple α) (i : Fin 3) (x : α) : (t.set i x).get i = x := by
  fin_cases i <;> rfl

theorem get_set_other {α : Type} (t : Triple α) {i j : Fin 3} (x : α) (h : j ≠ i) : (t.set i x).get j = t.get j := by
  fin_cases i <;> fin_cases j <;> first | rfl | exact absurd rfl h

end Sys2Proof.Machine
end

