-- ==== Sys2Proof/Laws/Operations.lean ====
section
/-! SUPPORT. What each shared operation can do, said once: the commands, the tick, the host and the port. -/

namespace Sys2Proof.Machine

/-- `k` selects key register `i` exactly when their numbers agree; 3 selects none. -/
theorem keyIndex_eq_some {k : BitVec 2} {i : Fin 3} : keyIndex k = some i ↔ k.toNat = i.val := by
  revert k i; decide

theorem keyIndex_eq_none {k : BitVec 2} : keyIndex k = none ↔ k = 3 := by
  revert k; decide

/-- A valid flag, after LDKEY's update of `KVALID`. -/
theorem kvalid_after_load (v : BitVec 3) (i j : Fin 3) :
    (v ||| kvalidBit i).getLsbD j.val = (decide (j = i) || v.getLsbD j.val) := by
  revert v i j; decide

/-- The mask test of the key-count check, as valid flags. -/
theorem keyNeed_iff (td : Comp) (v : BitVec 3) :
    (v &&& keyNeed td == keyNeed td) = true ↔
      v.getLsbD 0 = true ∧ (td ≠ .single → v.getLsbD 1 = true ∧ v.getLsbD 2 = true) := by
  revert v; cases td <;> decide

/-- The key-count check, as valid flags of the key registers a composition needs. -/
theorem keysLoaded_iff (td : Comp) (s : State) :
    keysLoaded td s = true ↔
      s.kvalid.getLsbD 0 = true ∧ (td ≠ .single → s.kvalid.getLsbD 1 = true ∧ s.kvalid.getLsbD 2 = true) :=
  keyNeed_iff td s.kvalid

/-- Every CRYPT is one shared meaning at its sub-mode and composition. -/
theorem exec_cryptOf (m : SubMode) (td : Comp) (b : Word) (s : State) :
    exec (cryptOf m td b) s = .next (cryptCommand m td b s) := by
  cases m <;> cases td <;> rfl

/-- A CRYPT starts its operation or is rejected. -/
theorem cryptCommand_cases (m : SubMode) (td : Comp) (b : Word) (s : State) :
    (keysLoaded td s = true ∧ cryptCommand m td b s = respond .ok 0 (startOperation m td b s)) ∨
    (keysLoaded td s = false ∧ cryptCommand m td b s = rejectKey s) := by
  unfold cryptCommand
  cases keysLoaded td s <;> simp

/-- What a command can do: the eight effects of 45_commands.md. -/
theorem exec_cases {i : Instr} {s t : State} (h : exec i s = .next t) :
    ((∃ x, i = .nop x) ∧ t = respond .ok 0 s) ∨
    (∃ k key j, i = .ldkey k key ∧ keyIndex k = some j ∧ t = respond .ok 0 (writeKey j key s)) ∨
    (∃ key, i = .ldkey 3 key ∧ t = raiseFault .badKeyIndex s) ∨
    ((∃ x, i = .clrkey x) ∧ t = respond .ok 0 (clearKeys s)) ∨
    (∃ m td b, i = cryptOf m td b ∧ keysLoaded td s = true ∧ t = respond .ok 0 (startOperation m td b s)) ∨
    (∃ m td b, i = cryptOf m td b ∧ keysLoaded td s = false ∧ t = rejectKey s) ∨
    ((∃ x, i = .rdout x) ∧ t = respond .ok s.dout s) ∨
    ((∃ x, i = .rdstat x) ∧ t = respond .ok (zext64 (statusWord s)) s) := by
  have crypt (m td b) (hi : i = cryptOf m td b) :
      (∃ m td b, i = cryptOf m td b ∧ keysLoaded td s = true ∧ t = respond .ok 0 (startOperation m td b s)) ∨
      (∃ m td b, i = cryptOf m td b ∧ keysLoaded td s = false ∧ t = rejectKey s) := by
    subst hi
    rw [exec_cryptOf] at h
    cases h
    rcases cryptCommand_cases m td b s with ⟨hk, e⟩ | ⟨hk, e⟩
    · exact .inl ⟨m, td, b, rfl, hk, e⟩
    · exact .inr ⟨m, td, b, rfl, hk, e⟩
  cases i with
  | nop x => cases h; exact .inl ⟨⟨x, rfl⟩, rfl⟩
  | ldkey k key =>
    simp only [exec, execLdkey] at h
    split at h
    · next j hj => cases h; exact .inr (.inl ⟨k, key, j, rfl, hj, rfl⟩)
    · next hk => cases h; exact .inr (.inr (.inl ⟨key, by rw [keyIndex_eq_none.mp hk], rfl⟩))
  | clrkey x => cases h; exact .inr (.inr (.inr (.inl ⟨⟨x, rfl⟩, rfl⟩)))
  | rdout x => cases h; exact .inr (.inr (.inr (.inr (.inr (.inr (.inl ⟨⟨x, rfl⟩, rfl⟩))))))
  | rdstat x => cases h; exact .inr (.inr (.inr (.inr (.inr (.inr (.inr ⟨⟨x, rfl⟩, rfl⟩))))))
  | cryptDSingle b => rcases crypt .dec .single b rfl with e | e <;> simp only [e, true_or, or_true]
  | cryptESingle b => rcases crypt .enc .single b rfl with e | e <;> simp only [e, true_or, or_true]
  | cryptDEee3 b => rcases crypt .dec .eee3 b rfl with e | e <;> simp only [e, true_or, or_true]
  | cryptEEee3 b => rcases crypt .enc .eee3 b rfl with e | e <;> simp only [e, true_or, or_true]
  | cryptDEde3 b => rcases crypt .dec .ede3 b rfl with e | e <;> simp only [e, true_or, or_true]
  | cryptEEde3 b => rcases crypt .enc .ede3 b rfl with e | e <;> simp only [e, true_or, or_true]

/-- Every command answers a next state. -/
theorem exec_next (i : Instr) (s : State) : ∃ t, exec i s = .next t := by
  cases i with
  | ldkey k key => simp only [exec, execLdkey]; split <;> exact ⟨_, rfl⟩
  | _ => exact ⟨_, rfl⟩

/-- What a tick can do (44_triple_sequencer.md R186 to R188): the next round, the next stage, or completion. -/
theorem tick_cases (s : State) :
    (s.rnd.val < 15 ∧ tick s = { tickRound s with rnd := s.rnd + 1 }) ∨
    (s.rnd.val = 15 ∧ s.stg.val + 1 < s.nst.val ∧
      tick s = stageInit (stageOutput (tickRound s).datapath) { tickRound s with stg := s.stg + 1, rnd := 0 }) ∨
    (s.rnd.val = 15 ∧ s.nst.val ≤ s.stg.val + 1 ∧
      tick s = complete (stageOutput (tickRound s).datapath) (tickRound s)) := by
  have hr : (tickRound s).rnd = s.rnd := rfl
  have hs : (tickRound s).stg = s.stg := rfl
  have hn : (tickRound s).nst = s.nst := rfl
  by_cases h : s.rnd.val < 15
  · exact .inl ⟨h, by simp only [tick, hr, h, if_true]⟩
  · have h15 : s.rnd.val = 15 := by have := s.rnd.isLt; omega
    by_cases h2 : s.stg.val + 1 < s.nst.val
    · exact .inr (.inl ⟨h15, h2, by simp only [tick, hr, h, if_false, endOfStage, hs, hn, h2, if_true]⟩)
    · exact .inr (.inr ⟨h15, by omega, by simp only [tick, hr, h, if_false, endOfStage, hs, hn, h2]⟩)

/-- What the host's move can do: issue, or nothing. -/
theorem hostIssue_cases (s : State) :
    (∃ tr rest, s.pend = none ∧ s.program = tr :: rest ∧
      hostIssue s = { s with pend := some tr, program := rest }) ∨
    ((s.pend ≠ none ∨ s.program = []) ∧ hostIssue s = s) := by
  unfold hostIssue
  split
  · next t rest hp hq => exact .inl ⟨t, rest, hp, hq, rfl⟩
  · next h =>
    refine .inr ⟨?_, rfl⟩
    rcases hp : s.pend with _ | tr
    · rcases hq : s.program with _ | ⟨a, b⟩
      · exact .inr rfl
      · exact absurd hq (h a b hp)
    · exact .inl (by simp)

/-- What becomes of a pending command. -/
theorem admission_cases (tr : Transfer) (s : State) :
    (held tr.cmd s = true ∧ admission tr s = .hold) ∨
    (held tr.cmd s = false ∧ refused tr.cmd s = true ∧ admission tr s = .refuse) ∨
    (∃ c, held tr.cmd s = false ∧ refused tr.cmd s = false ∧ decode tr = .illegal c ∧ admission tr s = .raise c) ∨
    (∃ i, held tr.cmd s = false ∧ refused tr.cmd s = false ∧ decode tr = .legal i ∧ admission tr s = .perform i) := by
  unfold admission
  cases held tr.cmd s <;> cases refused tr.cmd s <;> cases decode tr <;> simp

end Sys2Proof.Machine
end

