-- ==== Sys2Proof/Laws/PerInstr.lean ====
section
/-! SUPPORT. One lemma per command. `EncodeFields`: the word of a well-formed command has a defined opcode and no reserved bit
(30_encoding.md R72, R82). -/

namespace Sys2Proof.Laws.EncodeFields

/-- A word has an opcode of R73 and only defined bits. -/
abbrev DefinedBits (cmd : BitVec 16) : Prop := opOf cmd < 6 ∧ cmd &&& resv (opOf cmd) = 0

/-- The encoded word of a well-formed command has only defined bits. -/
def Statement (i : Instr) : Prop := i.WellFormed = true → DefinedBits (encode i).cmd

theorem nop (opnd : Word) : Statement (.nop opnd) := fun _ =>
  show DefinedBits 0x0000 by decide

theorem ldkey (k : BitVec 2) (key : Word) : Statement (.ldkey k key) := fun _ =>
  (by decide : ∀ k : BitVec 2, DefinedBits (0x1000 ||| k.setWidth 16)) k

theorem clrkey (opnd : Word) : Statement (.clrkey opnd) := fun _ =>
  show DefinedBits 0x2000 by decide

theorem cryptDSingle (block : Word) : Statement (.cryptDSingle block) := fun _ =>
  show DefinedBits 0x3000 by decide

theorem cryptESingle (block : Word) : Statement (.cryptESingle block) := fun _ =>
  show DefinedBits 0x3001 by decide

theorem cryptDEee3 (block : Word) : Statement (.cryptDEee3 block) := fun _ =>
  show DefinedBits 0x3002 by decide

theorem cryptEEee3 (block : Word) : Statement (.cryptEEee3 block) := fun _ =>
  show DefinedBits 0x3003 by decide

theorem cryptDEde3 (block : Word) : Statement (.cryptDEde3 block) := fun _ =>
  show DefinedBits 0x3004 by decide

theorem cryptEEde3 (block : Word) : Statement (.cryptEEde3 block) := fun _ =>
  show DefinedBits 0x3005 by decide

theorem rdout (opnd : Word) : Statement (.rdout opnd) := fun _ =>
  show DefinedBits 0x4000 by decide

theorem rdstat (opnd : Word) : Statement (.rdstat opnd) := fun _ =>
  show DefinedBits 0x5000 by decide

end Sys2Proof.Laws.EncodeFields
end

