-- ==== Sys2Proof/Laws/Safety.lean ====
section
/-! SUPPORT. The end of a run: its three conditions, and what looking for it does in one step. -/

namespace Sys2Proof.Machine

/-- The three conditions of 70_reset_and_hazards.md R273. -/
theorem endOfRun_iff (start s : State) :
    endOfRun start s = true ↔
      s.responses.length = start.responses.length + commandCount start ∧ s.pend = none ∧ s.busy = false := by
  simp [endOfRun, and_assoc]

/-- A state at which the run has ended is the one found. -/
theorem firstEnd_of_end {start s : State} (h : endOfRun start s = true) (fuel : Nat) :
    firstEnd start fuel s = some s := by
  cases fuel <;> simp [firstEnd, h]

/-- Otherwise the search goes on after a step. -/
theorem firstEnd_of_step {start s t : State} (h : endOfRun start s = false) (hs : step s = .next t) (fuel : Nat) :
    firstEnd start (fuel + 1) s = firstEnd start fuel t := by
  simp [firstEnd, h, hs]

end Sys2Proof.Machine
end

