-- ==== Sys2Proof/Laws/Step.lean ====
section
/-! SUPPORT. The step, inverted once: which agent moved, under which guards, and to which state. -/

namespace Sys2Proof.Machine

/-- A word that is not held while an operation runs is `0x0000` or `0x5000` (45_commands.md R200). -/
theorem busy_word {cmd : BitVec 16} {s : State} (h : held cmd s = false) (hb : s.busy = true) :
    cmd = 0 ∨ cmd = 0x5000 := by
  have h' : ¬cmd = 0 → cmd = 0x5000 := by simpa [held, hb] using h
  exact Decidable.or_iff_not_imp_left.mpr h'

/-- Those two words decode to NOP and RDSTAT. -/
theorem decode_busy_word {tr : Transfer} (h : tr.cmd = 0 ∨ tr.cmd = 0x5000) :
    decode tr = .legal (.nop tr.opnd) ∨ decode tr = .legal (.rdstat tr.opnd) := by
  obtain ⟨cmd, opnd⟩ := tr
  rcases h with h | h <;> simp only at h <;> subst h
  · exact .inl (decode_nop_word opnd)
  · exact .inr (decode_rdstat_word opnd)

/-- A word that is not refused in the fault state decodes to RDSTAT (60_exceptions.md R228). -/
theorem decode_fault_word {tr : Transfer} {s : State} (h : refused tr.cmd s = false) (hf : s.fault = true) :
    decode tr = .legal (.rdstat tr.opnd) := by
  obtain ⟨cmd, opnd⟩ := tr
  have : cmd = 0x5000 := by simpa [refused, hf] using h
  subst this
  exact decode_rdstat_word opnd

/-- Neither busy nor in the fault state: what the port needs to perform a command other than NOP and RDSTAT, or to raise a
fault. -/
theorem port_ready {tr : Transfer} {s : State} (h : held tr.cmd s = false) (hr : refused tr.cmd s = false)
    (hn : ∀ x, decode tr ≠ .legal (.nop x)) (hd : ∀ x, decode tr ≠ .legal (.rdstat x)) :
    s.busy = false ∧ s.fault = false := by
  constructor
  · cases hb : s.busy with
    | false => rfl
    | true =>
      rcases decode_busy_word (busy_word h hb) with e | e
      · exact absurd e (hn _)
      · exact absurd e (hd _)
  · cases hf : s.fault with
    | false => rfl
    | true => exact absurd (decode_fault_word hr hf) (hd _)

theorem cryptOf_ne_nop (m : SubMode) (td : Comp) (b x : Word) : cryptOf m td b ≠ .nop x := by
  cases m <;> cases td <;> simp [cryptOf]

theorem cryptOf_ne_rdstat (m : SubMode) (td : Comp) (b x : Word) : cryptOf m td b ≠ .rdstat x := by
  cases m <;> cases td <;> simp [cryptOf]

/-- A transfer never decodes to LDKEY with the reserved index. -/
theorem decode_ne_ldkey_three (tr : Transfer) (key : Word) : decode tr ≠ .legal (.ldkey 3 key) := by
  intro h
  unfold decode at h
  simp only at h
  split at h <;> [cases h; skip]
  split at h <;> [cases h; skip]
  next hk =>
  split at h <;> [cases h; skip]
  split at h <;> [cases h; skip]
  split at h <;> [cases h; skip]
  split at h
  · next h1 =>
    injection h with h
    injection h with h
    exact hk ⟨h1, h⟩
  · split at h <;> [cases h; skip]
    split at h
    · split at h
      · next td _ =>
        injection h with h
        revert h
        generalize subModeOfBits _ = m
        cases m <;> cases td <;> intro h <;> cases h
      · cases h
    · split at h <;> cases h

/-- A command step is the command step of R200, on the state where its command is in `PEND`. -/
theorem step_of_takes {tr : Transfer} {s : State} (h : Takes tr s) :
    step s = commandStep tr { taken s with pend := some tr } := by
  rcases h with ⟨ha, hp⟩ | ⟨ha, hp, hq⟩
  · have e : popSchedule s = { taken s with pend := some tr } := by simp [popSchedule, taken, ha, ← hp]
    rw [step, ha, move, portMove, popSchedule_pend, hp, e]
  · obtain ⟨rest, hq⟩ : ∃ rest, s.program = tr :: rest := by
      cases hl : s.program <;> rw [hl] at hq <;> cases hq
      exact ⟨_, rfl⟩
    have e : hostIssue (popSchedule s) = { taken s with pend := some tr } := by
      simp [hostIssue, popSchedule, taken, ha, hp, hq]
    rw [step, ha, move, hostMove, popSchedule_pend, hp, e, portMove]

/-- What a step can do: one agent's move, with its guard. -/
theorem step_cases {s t : State} (h : step s = .next t) :
    (nextAgent s = .host ∧ (s.pend ≠ none ∨ s.program = []) ∧ t = popSchedule s) ∨
    (nextAgent s = .reset ∧ t = resetStep (popSchedule s)) ∨
    (nextAgent s = .engine ∧ s.busy = true ∧ t = tick (popSchedule s)) ∨
    (nextAgent s = .engine ∧ s.busy = false ∧ t = popSchedule s) ∨
    (nextAgent s = .port ∧ s.pend = none ∧ t = popSchedule s) ∨
    (∃ tr, Takes tr s ∧ held tr.cmd s = true ∧ t = { taken s with pend := some tr }) ∨
    (∃ tr, Takes tr s ∧ held tr.cmd s = false ∧ refused tr.cmd s = true ∧ t = refuse (taken s)) ∨
    (∃ tr c, Takes tr s ∧ held tr.cmd s = false ∧ refused tr.cmd s = false ∧ decode tr = .illegal c ∧
      t = raiseFault c (taken s)) ∨
    (∃ tr i, Takes tr s ∧ held tr.cmd s = false ∧ refused tr.cmd s = false ∧ decode tr = .legal i ∧
      exec i (taken s) = .next t) := by
  have command {tr : Transfer} (ht : Takes tr s) :
      (held tr.cmd s = true ∧ t = { taken s with pend := some tr }) ∨
      (held tr.cmd s = false ∧ refused tr.cmd s = true ∧ t = refuse (taken s)) ∨
      (∃ c, held tr.cmd s = false ∧ refused tr.cmd s = false ∧ decode tr = .illegal c ∧ t = raiseFault c (taken s)) ∨
      (∃ i, held tr.cmd s = false ∧ refused tr.cmd s = false ∧ decode tr = .legal i ∧ exec i (taken s) = .next t) := by
    rw [step_of_takes ht, commandStep] at h
    rcases admission_cases tr { taken s with pend := some tr } with
      ⟨h1, e⟩ | ⟨h1, h2, e⟩ | ⟨c, h1, h2, h3, e⟩ | ⟨i, h1, h2, h3, e⟩ <;> rw [e] at h
    · cases h; exact .inl ⟨h1, rfl⟩
    · cases h; exact .inr (.inl ⟨h1, h2, rfl⟩)
    · cases h; exact .inr (.inr (.inl ⟨c, h1, h2, h3, rfl⟩))
    · exact .inr (.inr (.inr ⟨i, h1, h2, h3, h⟩))
  by_cases ht : ∃ tr, Takes tr s
  · obtain ⟨tr, ht⟩ := ht
    rcases command ht with ⟨h1, e⟩ | ⟨h1, h2, e⟩ | ⟨c, h1, h2, h3, e⟩ | ⟨i, h1, h2, h3, e⟩
    · exact .inr (.inr (.inr (.inr (.inr (.inl ⟨tr, ht, h1, e⟩)))))
    · exact .inr (.inr (.inr (.inr (.inr (.inr (.inl ⟨tr, ht, h1, h2, e⟩))))))
    · exact .inr (.inr (.inr (.inr (.inr (.inr (.inr (.inl ⟨tr, c, ht, h1, h2, h3, e⟩)))))))
    · exact .inr (.inr (.inr (.inr (.inr (.inr (.inr (.inr ⟨tr, i, ht, h1, h2, h3, e⟩)))))))
  · unfold step at h
    cases ha : nextAgent s <;> rw [ha] at h
    · refine .inl ⟨rfl, ?_⟩
      cases hp : s.pend with
      | some tr =>
        rw [move, hostMove, popSchedule_pend, hp] at h
        cases h
        exact ⟨.inl (by simp), rfl⟩
      | none =>
        cases hq : s.program with
        | cons tr rest => exact absurd ⟨tr, .inr ⟨ha, hp, by rw [hq]; rfl⟩⟩ ht
        | nil =>
          have e : hostIssue (popSchedule s) = popSchedule s := by simp [hostIssue, hp, hq]
          rw [move, hostMove, popSchedule_pend, hp, e, portMove, popSchedule_pend, hp] at h
          cases h
          exact ⟨.inr rfl, rfl⟩
    · cases hp : s.pend with
      | some tr => exact absurd ⟨tr, .inl ⟨ha, hp⟩⟩ ht
      | none =>
        rw [move, portMove, popSchedule_pend, hp] at h
        cases h
        exact .inr (.inr (.inr (.inr (.inl ⟨rfl, rfl, rfl⟩))))
    · cases h
      cases hb : s.busy
      · exact .inr (.inr (.inr (.inl ⟨rfl, rfl, by simp [engineMove, hb]⟩)))
      · exact .inr (.inr (.inl ⟨rfl, rfl, by simp [engineMove, hb]⟩))
    · cases h; exact .inr (.inl ⟨rfl, rfl⟩)

/-- How a step from `s` can have come to `t`. -/
inductive StepCase (s : State) : State → Prop where
  | noIssue (ha : nextAgent s = .host) (hp : s.pend ≠ none ∨ s.program = []) : StepCase s (popSchedule s)
  | reset (ha : nextAgent s = .reset) : StepCase s (resetStep (popSchedule s))
  | tick (ha : nextAgent s = .engine) (hb : s.busy = true) : StepCase s (Machine.tick (popSchedule s))
  | noTick (ha : nextAgent s = .engine) (hb : s.busy = false) : StepCase s (popSchedule s)
  | noCommand (ha : nextAgent s = .port) (hp : s.pend = none) : StepCase s (popSchedule s)
  | hold (tr : Transfer) (ht : Takes tr s) (hb : s.busy = true) (h0 : tr.cmd ≠ 0x0000) (h5 : tr.cmd ≠ 0x5000) :
      StepCase s { taken s with pend := some tr }
  | refuse (tr : Transfer) (ht : Takes tr s) (hh : held tr.cmd s = false) (hf : s.fault = true)
      (hc : tr.cmd ≠ 0x5000) : StepCase s (Machine.refuse (taken s))
  | raise (tr : Transfer) (c : FaultCause) (ht : Takes tr s) (hb : s.busy = false) (hf : s.fault = false)
      (hd : decode tr = .illegal c) : StepCase s (raiseFault c (taken s))
  | nop (tr : Transfer) (x : Word) (ht : Takes tr s) (hh : held tr.cmd s = false) (hf : s.fault = false)
      (hd : decode tr = .legal (.nop x)) : StepCase s (respond .ok 0 (taken s))
  | rdstat (tr : Transfer) (x : Word) (ht : Takes tr s) (hh : held tr.cmd s = false)
      (hd : decode tr = .legal (.rdstat x)) : StepCase s (respond .ok (zext64 (statusWord s)) (taken s))
  | rdout (tr : Transfer) (x : Word) (ht : Takes tr s) (hb : s.busy = false) (hf : s.fault = false)
      (hd : decode tr = .legal (.rdout x)) : StepCase s (respond .ok s.dout (taken s))
  | ldkey (tr : Transfer) (k : BitVec 2) (key : Word) (j : Fin 3) (ht : Takes tr s) (hb : s.busy = false)
      (hf : s.fault = false) (hd : decode tr = .legal (.ldkey k key)) (hj : keyIndex k = some j) :
      StepCase s (respond .ok 0 (writeKey j key (taken s)))
  | clrkey (tr : Transfer) (x : Word) (ht : Takes tr s) (hb : s.busy = false) (hf : s.fault = false)
      (hd : decode tr = .legal (.clrkey x)) : StepCase s (respond .ok 0 (clearKeys (taken s)))
  | start (tr : Transfer) (m : SubMode) (td : Comp) (b : Word) (ht : Takes tr s) (hb : s.busy = false)
      (hf : s.fault = false) (hd : decode tr = .legal (cryptOf m td b)) (hk : keysLoaded td s = true) :
      StepCase s (respond .ok 0 (startOperation m td b (taken s)))
  | reject (tr : Transfer) (m : SubMode) (td : Comp) (b : Word) (ht : Takes tr s) (hb : s.busy = false)
      (hf : s.fault = false) (hd : decode tr = .legal (cryptOf m td b)) (hk : keysLoaded td s = false) :
      StepCase s (rejectKey (taken s))

/-- What a step can do, with every guard. -/
theorem stepCase {s t : State} (h : step s = .next t) : StepCase s t := by
  rcases step_cases h with ⟨ha, hp, rfl⟩ | ⟨ha, rfl⟩ | ⟨ha, hb, rfl⟩ | ⟨ha, hb, rfl⟩ | ⟨ha, hp, rfl⟩ |
    ⟨tr, ht, hh, rfl⟩ | ⟨tr, ht, hh, hr, rfl⟩ | ⟨tr, c, ht, hh, hr, hd, rfl⟩ | ⟨tr, i, ht, hh, hr, hd, he⟩
  · exact .noIssue ha hp
  · exact .reset ha
  · exact .tick ha hb
  · exact .noTick ha hb
  · exact .noCommand ha hp
  · have hh' : (s.busy = true ∧ tr.cmd ≠ 0) ∧ tr.cmd ≠ 0x5000 := by simpa [held] using hh
    exact .hold tr ht hh'.1.1 hh'.1.2 hh'.2
  · have hr' : s.fault = true ∧ tr.cmd ≠ 0x5000 := by simpa [refused] using hr
    exact .refuse tr ht hh hr'.1 hr'.2
  · obtain ⟨hb, hf⟩ := port_ready hh hr (by simp [hd]) (by simp [hd])
    exact .raise tr c ht hb hf hd
  · rcases exec_cases he with ⟨⟨x, rfl⟩, rfl⟩ | ⟨k, key, j, rfl, hj, rfl⟩ | ⟨key, rfl, -⟩ | ⟨⟨x, rfl⟩, rfl⟩ |
      ⟨m, td, b, rfl, hk, rfl⟩ | ⟨m, td, b, rfl, hk, rfl⟩ | ⟨⟨x, rfl⟩, rfl⟩ | ⟨⟨x, rfl⟩, rfl⟩
    · refine .nop tr x ht hh ?_ hd
      cases hf : s.fault with
      | false => rfl
      | true => rw [decode_fault_word hr hf] at hd; cases hd
    · obtain ⟨hb, hf⟩ := port_ready hh hr (by simp [hd]) (by simp [hd])
      exact .ldkey tr k key j ht hb hf hd hj
    · exact absurd hd (decode_ne_ldkey_three tr key)
    · obtain ⟨hb, hf⟩ := port_ready hh hr (by simp [hd]) (by simp [hd])
      exact .clrkey tr x ht hb hf hd
    · obtain ⟨hb, hf⟩ := port_ready hh hr (by simp [hd, cryptOf_ne_nop]) (by simp [hd, cryptOf_ne_rdstat])
      exact .start tr m td b ht hb hf hd hk
    · obtain ⟨hb, hf⟩ := port_ready hh hr (by simp [hd, cryptOf_ne_nop]) (by simp [hd, cryptOf_ne_rdstat])
      exact .reject tr m td b ht hb hf hd hk
    · obtain ⟨hb, hf⟩ := port_ready hh hr (by simp [hd]) (by simp [hd])
      exact .rdout tr x ht hb hf hd
    · exact .rdstat tr x ht hh hd

end Sys2Proof.Machine
end

