-- ==== Sys2Proof/Tests/Slice0.lean ====
section
/-! SUPPORT. Tests: the ill-formed command, a word written out for each command, values of 95_test_vectors.md (all derived
from the spec's rules, none from this model), and a witness for each obligation with hypotheses. -/

namespace Sys2Proof.Tests

open Sys2Proof.Machine Sys2Proof.Claims

-- One thread for this file: each `decide +kernel` would wait in a thread of its own for the one before it.
set_option Elab.async false

/-! ### States -/

/-- The test keys of 95_test_vectors.md 2.6. -/
def keys : Triple Word := ⟨0x0123456789ABCDEF, 0x23456789ABCDEF01, 0x456789ABCDEF0123⟩

/-- The operand of 95_test_vectors.md 2.7. -/
def operand : Word := 0x0123456789ABCDEF

/-- The reset state, with EDE polarity. -/
def fresh : State := { State.reset with ede3Polarity := .ede }

/-- Three keys loaded. -/
def loaded : State := { fresh with key := keys, kvalid := 0b111 }

/-- In the fault state, for LDKEY's reserved index. -/
def faulty : State := { fresh with fault := true, fcause := 2 }

/-- `s` with a command as the host's next and the host's step next. -/
def issuing (cmd : BitVec 16) (s : State) : State := { s with program := [⟨cmd, operand⟩], schedule := [.host] }

/-- `s` with a command pending and the port's step next. -/
def pending (cmd : BitVec 16) (s : State) : State := { s with pend := some ⟨cmd, operand⟩, schedule := [.port] }

/-- `s` with one agent's step next. -/
def turn (a : Agent) (s : State) : State := { s with schedule := [a] }

/-- The operation `encrypt 0` under key 0 in progress, after `n` rounds. -/
def singleAfter (n : Nat) : State :=
  let p := stageTrace .enc (stageStart 0 0) n
  { fresh with
    kvalid := 0b001, plan := ⟨⟨0, .enc⟩, ⟨0, .dec⟩, ⟨0, .dec⟩⟩, nst := 1, rnd := Fin.ofNat 16 n, busy := true
    l := p.halves.l, r := p.halves.r, c := p.keys.c, d := p.keys.d, ksst := ksstBefore (Fin.ofNat 16 n) }

/-- The first stage of `crypt.e.eee3` on 0 in progress under three zero keys, after `n` rounds. -/
def tripleAfter (n : Nat) : State :=
  { singleAfter n with kvalid := 0b111, plan := ⟨⟨0, .enc⟩, ⟨1, .enc⟩, ⟨2, .enc⟩⟩, nst := 3 }

/-- What a test looks at in the state that one step answers. -/
def after {α : Type} (f : State → α) (s : State) : Option α :=
  match step s with
  | .next t => some (f t)
  | .fault _ => none
  | .refused _ => none

/-- The last response and `STATUS` after a command with no keys, and after it with three keys. -/
def outcome (cmd : BitVec 16) : List (Option (List Response × BitVec 16)) :=
  [after (fun t => (t.responses, statusWord t)) (issuing cmd fresh),
    after (fun t => (t.responses, statusWord t)) (issuing cmd loaded)]

/-! ### The ill-formed command (30_encoding.md R74, R83) -/

theorem test_ldkey_index_three_is_refused : Instr.WellFormed (.ldkey 3 operand) = false := by decide

theorem test_ldkey_index_two_is_accepted : Instr.WellFormed (.ldkey 2 operand) = true := by decide

theorem test_word_of_index_three_is_rejected : decode ⟨0x1003, operand⟩ = .illegal .badKeyIndex := by decide +kernel

/-! ### Decoding: each command's word, written out from 30_encoding.md R73 to R78 (opcode, then its fields, then zeros) -/

theorem test_decode_nop : decode ⟨0b0000_0000_0000_0000, operand⟩ = .legal (.nop operand) := by decide +kernel

theorem test_decode_ldkey : decode ⟨0b0001_0000_0000_0010, operand⟩ = .legal (.ldkey 2 operand) := by decide +kernel

theorem test_decode_clrkey : decode ⟨0b0010_0000_0000_0000, operand⟩ = .legal (.clrkey operand) := by decide +kernel

theorem test_decode_cryptDSingle : decode ⟨0b0011_0000_0000_0_00_0, operand⟩ = .legal (.cryptDSingle operand) := by
  decide +kernel

theorem test_decode_cryptESingle : decode ⟨0b0011_0000_0000_0_00_1, operand⟩ = .legal (.cryptESingle operand) := by
  decide +kernel

theorem test_decode_cryptDEee3 : decode ⟨0b0011_0000_0000_0_01_0, operand⟩ = .legal (.cryptDEee3 operand) := by
  decide +kernel

theorem test_decode_cryptEEee3 : decode ⟨0b0011_0000_0000_0_01_1, operand⟩ = .legal (.cryptEEee3 operand) := by
  decide +kernel

theorem test_decode_cryptDEde3 : decode ⟨0b0011_0000_0000_0_10_0, operand⟩ = .legal (.cryptDEde3 operand) := by
  decide +kernel

theorem test_decode_cryptEEde3 : decode ⟨0b0011_0000_0000_0_10_1, operand⟩ = .legal (.cryptEEde3 operand) := by
  decide +kernel

theorem test_decode_rdout : decode ⟨0b0100_0000_0000_0000, operand⟩ = .legal (.rdout operand) := by decide +kernel

theorem test_decode_rdstat : decode ⟨0b0101_0000_0000_0000, operand⟩ = .legal (.rdstat operand) := by decide +kernel

/-- The priority of 60_exceptions.md R237, by the rows of 95_test_vectors.md 2.7. -/
theorem test_decode_priority :
    [0x1FFF, 0x3FFF, 0x3007, 0x3009, 0x1004, 0x2800, 0x0FFF, 0x4001, 0x5001, 0x7000, 0xFFFF].map
        (fun w => decode ⟨w, operand⟩) =
      [.illegal .badKeyIndex, .illegal .badTdMode, .illegal .badTdMode, .illegal .reservedField,
        .illegal .reservedField, .illegal .reservedField, .illegal .reservedField, .illegal .reservedField,
        .illegal .reservedField, .illegal .illegalOp, .illegal .illegalOp] := by
  decide +kernel

/-- The listing of 95_test_vectors.md P1's second command. -/
theorem test_listing : String.ofList (listing (encode (.encrypt operand))) = "3001:0123456789ABCDEF" := by decide +kernel

/-! ### Commands: the rows of 95_test_vectors.md 2.7, and one more of each command -/

theorem test_nop : outcome 0x0000 = [some ([⟨.ok, 0⟩], 0x000), some ([⟨.ok, 0⟩], 0x700)] := by decide +kernel

theorem test_ldkey : outcome 0x1002 = [some ([⟨.ok, 0⟩], 0x400), some ([⟨.ok, 0⟩], 0x700)] := by decide +kernel

/-- R202: only the named key register is written. -/
theorem test_ldkey_writes_one :
    after (·.key) (issuing 0x1001 loaded) = some ⟨0x0123456789ABCDEF, operand, 0x456789ABCDEF0123⟩ := by
  decide +kernel

theorem test_clrkey : outcome 0x2000 = [some ([⟨.ok, 0⟩], 0x000), some ([⟨.ok, 0⟩], 0x000)] := by decide +kernel

theorem test_clrkey_clears : after (·.key) (issuing 0x2000 loaded) = some ⟨0, 0, 0⟩ := by decide +kernel

theorem test_cryptDSingle : outcome 0x3000 = [some ([⟨.rejKey, 0⟩], 0x004), some ([⟨.ok, 0⟩], 0x701)] := by
  decide +kernel

theorem test_cryptESingle : outcome 0x3001 = [some ([⟨.rejKey, 0⟩], 0x004), some ([⟨.ok, 0⟩], 0x701)] := by
  decide +kernel

theorem test_cryptDEee3 : outcome 0x3002 = [some ([⟨.rejKey, 0⟩], 0x004), some ([⟨.ok, 0⟩], 0x701)] := by
  decide +kernel

theorem test_cryptEEee3 : outcome 0x3003 = [some ([⟨.rejKey, 0⟩], 0x004), some ([⟨.ok, 0⟩], 0x701)] := by
  decide +kernel

theorem test_cryptDEde3 : outcome 0x3004 = [some ([⟨.rejKey, 0⟩], 0x004), some ([⟨.ok, 0⟩], 0x701)] := by
  decide +kernel

theorem test_cryptEEde3 : outcome 0x3005 = [some ([⟨.rejKey, 0⟩], 0x004), some ([⟨.ok, 0⟩], 0x701)] := by
  decide +kernel

/-- R183, R185: the plan an EDE3 decryption writes, its length, and the halves of `IP(block)` (2.1). -/
theorem test_cryptDEde3_starts :
    after (fun t => (t.plan, t.nst, t.l, t.r)) (issuing 0x3004 loaded) =
      some (⟨⟨2, .dec⟩, ⟨1, .enc⟩, ⟨0, .dec⟩⟩, 3, 0xCC00CCFF, 0xF0AAF0AA) := by
  decide +kernel

theorem test_rdout : outcome 0x4000 = [some ([⟨.ok, 0⟩], 0x000), some ([⟨.ok, 0⟩], 0x700)] := by decide +kernel

theorem test_rdout_answers_dout :
    after (·.responses) (issuing 0x4000 { fresh with dout := 7 }) = some [⟨.ok, 7⟩] := by
  decide +kernel

theorem test_rdstat : outcome 0x5000 = [some ([⟨.ok, 0⟩], 0x000), some ([⟨.ok, 0x700⟩], 0x700)] := by decide +kernel

theorem test_illegal_words :
    [0x0001, 0x1003, 0x1FFF, 0x3006, 0x3009, 0x6000, 0xFFFF].flatMap outcome =
      [some ([⟨.faulted, 0⟩], 0x048), some ([⟨.faulted, 0⟩], 0x748), some ([⟨.faulted, 0⟩], 0x028),
        some ([⟨.faulted, 0⟩], 0x728), some ([⟨.faulted, 0⟩], 0x028), some ([⟨.faulted, 0⟩], 0x728),
        some ([⟨.faulted, 0⟩], 0x038), some ([⟨.faulted, 0⟩], 0x738), some ([⟨.faulted, 0⟩], 0x048),
        some ([⟨.faulted, 0⟩], 0x748), some ([⟨.faulted, 0⟩], 0x018), some ([⟨.faulted, 0⟩], 0x718),
        some ([⟨.faulted, 0⟩], 0x018), some ([⟨.faulted, 0⟩], 0x718)] := by
  decide +kernel

/-- The hold and refusal corners of 95_test_vectors.md 2.7. -/
theorem test_busy_holds_rdout :
    after (fun t => (t.pend, t.responses)) (issuing 0x4000 (singleAfter 0)) = some (some ⟨0x4000, operand⟩, []) ∧
    after (fun t => (t.pend, t.responses)) (pending 0x4000 (singleAfter 0)) = some (some ⟨0x4000, operand⟩, []) := by
  decide +kernel

/-- After completion the held RDOUT answers the new `DOUT`. -/
theorem test_lifted_rdout :
    after (fun t => (t.pend, t.responses)) (pending 0x4000 { loaded with done := true, dout := 7 }) =
      some (none, [⟨.ok, 7⟩]) := by
  decide +kernel

theorem test_busy_answers_rdstat : after (·.responses) (issuing 0x5000 (singleAfter 0)) = some [⟨.ok, 0x101⟩] := by
  decide +kernel

theorem test_fault_keeps_its_cause :
    after (fun t => (t.responses, t.fcause)) (issuing 0x6000 faulty) = some ([⟨.faulted, 0⟩], 2) := by
  decide +kernel

/-- 95_test_vectors.md 2.8, in the middle of an operation and with a command held. -/
theorem test_reset :
    after (fun t => (t.key, statusWord t, t.pend, t.responses)) (turn .reset { loaded with busy := true, pend := some ⟨0x4000, 0⟩ }) =
      some (⟨0, 0, 0⟩, 0, none, []) := by
  decide +kernel

/-- The tick of round 0 (44_triple_sequencer.md R186) on the first stage of 95_test_vectors.md 2.4's trace. -/
theorem test_tick :
    after (fun t => (t.l, t.r, t.c, t.d, t.rnd, t.ksst))
        (turn .engine { singleAfter 0 with l := 0xCC00CCFF, r := 0xF0AAF0AA, c := 0xF0CCAAF, d := 0x556678F }) =
      some (0xF0AAF0AA, 0xEF4A6544, 0xE19955F, 0xAACCF1E, 1, .round 0) := by
  decide +kernel

/-- The completing tick: the last round of that trace (44_triple_sequencer.md R188). -/
theorem test_completing_tick :
    after (fun t => (t.dout, statusWord t))
        (turn .engine { singleAfter 15 with l := 0xC28C960D, r := 0x43423234, c := 0xF866557, d := 0xAAB33C7 }) =
      some (0x4AD423A80F05780A, 0x102) := by
  decide +kernel

/-! ### Function units (95_test_vectors.md 2.1 to 2.6) -/

theorem test_ip : perm ip 0x8000000000000000 = 0x0000000001000000 := by decide +kernel

theorem test_fp : perm fp 0x0000000000000001 = 0x0200000000000000 := by decide +kernel

theorem test_expansion : perm expansion 0xF0AAF0AA = 0x7A15557A1555 := by decide +kernel

theorem test_pbox : perm pbox 0x5C82B597 = 0x234AA9BB := by decide +kernel

theorem test_pc1 : perm pc1 0x133457799BBCDFF1 = 0xF0CCAAF556678F := by decide +kernel

theorem test_pc2 : perm pc2 0xE19955FAACCF1E = 0x1B02EFFC7072 := by decide +kernel

/-- Row 2 of the S-box table in 2.2, and its input 0x1E. -/
theorem test_sbox :
    (List.finRange 8).map (sbox · 0x3F) = [13, 9, 12, 14, 3, 13, 12, 11] ∧
    (List.finRange 8).map (sbox · 0x1E) = [7, 10, 8, 15, 9, 11, 1, 7] := by
  decide +kernel

theorem test_slayer : slayer 0x6117BA866527 = 0x5C82B597 := by decide +kernel

theorem test_rotations :
    rotl28 0xC000000 2 = 3 ∧ rotr28 3 2 = 0xC000000 ∧ rotl28 0x8000000 1 = 1 ∧ rotr28 1 1 = 0x8000000 ∧
    rotr28 5 0 = 5 := by
  decide +kernel

theorem test_round_keys :
    roundKey (keyTrace .enc 0x133457799BBCDFF1 16) = 0xCB3D8B0E17F5 ∧
    roundKey (keyTrace .dec 0x133457799BBCDFF1 8) = 0xE0DBEBEDE781 := by
  decide +kernel

theorem test_rounds :
    round .enc 0x1B02EFFC7072 ⟨0xCC00CCFF, 0xF0AAF0AA⟩ = ⟨0xF0AAF0AA, 0xEF4A6544⟩ ∧
    round .dec 0xCB3D8B0E17F5 ⟨0x43423234, 0x0A4CD995⟩ = ⟨0xC28C960D, 0x43423234⟩ := by
  decide +kernel

/-- The scenario of 2.5, decrypting. -/
theorem test_transform_dec : transform 0xD8A63F8266379891 0x00EFD91E2F355A6A .dec = 0xDAF9A16CE4687425 := by
  decide +kernel

theorem test_run_eee3 : run .ede keys 0x5468652071756663 .enc .eee3 = 0xD38AE3BD39263D87 := by decide +kernel

theorem test_run_ede : run .ede keys 0x5468652071756663 .enc .ede3 = 0x5419FE4CDA374AAF := by decide +kernel

theorem test_run_ded : run .ded keys 0x5468652071756663 .enc .ede3 = 0x43C8F7D1F1338DCA := by decide +kernel

/-! ### Witnesses: a state and operands that meet the hypotheses of each obligation, clause by clause -/

/-- The second, or the third, stage of that triple operation, at round 15. -/
def tripleAt (stg : Fin 3) : State :=
  let b := runStages ⟨0, 0, 0⟩ ([⟨0, .enc⟩, ⟨1, .enc⟩].take stg.val) 0
  let p := stageTrace .enc (stageStart b 0) 15
  { tripleAfter 15 with stg := stg, l := p.halves.l, r := p.halves.r, c := p.keys.c, d := p.keys.d }

theorem witness_DecodeEncodeRoundTrip :
    Instr.WellFormed (.ldkey 0 operand) = true ∧ Instr.WellFormed (.cryptEEde3 operand) = true := by
  decide

theorem witness_EncodeDecodeRoundTrip : decode ⟨0x3005, operand⟩ = .legal (.cryptEEde3 operand) := by decide +kernel

theorem witness_ExactlyThirteenWordsAreLegal :
    (0x3005 : BitVec 16) ∈ legalWords ∧ (0x3006 : BitVec 16) ∉ legalWords ∧ (0x1003 : BitVec 16) ∉ legalWords ∧
    Takes ⟨0x3006, operand⟩ (issuing 0x3006 fresh) ∧ Takes ⟨0x3006, operand⟩ (pending 0x3006 fresh) ∧
    fresh.busy = false ∧ fresh.fault = false := by
  decide +kernel

/-- The words at the edges of each clause: opcodes 6 and 15; index 3 with the reserved bits clear and set; composition 3 with
either sub-mode, and with the reserved bits set; the lowest and the highest reserved bit of each opcode. -/
theorem witness_IllegalWordsRaiseTheirCause :
    ([0x6000, 0xFFFF].all fun w : BitVec 16 => 6 ≤ (w.extractLsb' 12 4).toNat) = true ∧
    ([0x1003, 0x1FFF].all fun w : BitVec 16 => w.extractLsb' 12 4 = 1 ∧ w.extractLsb' 0 2 = 3) = true ∧
    ([0x3006, 0x3007, 0x3FFF].all fun w : BitVec 16 => w.extractLsb' 12 4 = 3 ∧ w.extractLsb' 1 2 = 3) = true ∧
    ([0x0001, 0x0800, 0x2001, 0x2800, 0x4001, 0x4800, 0x5001, 0x5FFF].all fun w : BitVec 16 =>
      (w.extractLsb' 12 4 = 0 ∨ w.extractLsb' 12 4 = 2 ∨ w.extractLsb' 12 4 = 4 ∨ w.extractLsb' 12 4 = 5) ∧
        w &&& 0x0FFF ≠ 0) = true ∧
    ([0x1004, 0x1802].all fun w : BitVec 16 =>
      w.extractLsb' 12 4 = 1 ∧ w.extractLsb' 0 2 ≠ 3 ∧ w &&& 0x0FFC ≠ 0) = true ∧
    ([0x3008, 0x3805].all fun w : BitVec 16 =>
      w.extractLsb' 12 4 = 3 ∧ w.extractLsb' 1 2 ≠ 3 ∧ w &&& 0x0FF8 ≠ 0) = true ∧
    Takes ⟨0x6000, operand⟩ (issuing 0x6000 fresh) ∧ Takes ⟨0x6000, operand⟩ (pending 0x6000 fresh) ∧
    fresh.busy = false ∧ fresh.fault = false := by
  decide +kernel

/-- An idle block, a busy one and one in the fault state, from the host and from `PEND`; then each way to be next. -/
theorem witness_StepRunsDecodedInstruction :
    (Takes ⟨0x1001, operand⟩ (issuing 0x1001 fresh) ∧ Takes ⟨0x1001, operand⟩ (pending 0x1001 fresh) ∧
      decode ⟨0x1001, operand⟩ = .legal (.ldkey 1 operand) ∧ ¬Held 0x1001 fresh ∧ fresh.fault = false) ∧
    (Takes ⟨0x0000, operand⟩ (issuing 0x0000 (singleAfter 0)) ∧ decode ⟨0x0000, operand⟩ = .legal (.nop operand) ∧
      ¬Held 0x0000 (singleAfter 0) ∧ (singleAfter 0).fault = false) ∧
    (Takes ⟨0x5000, operand⟩ (issuing 0x5000 faulty) ∧ decode ⟨0x5000, operand⟩ = .legal (.rdstat operand) ∧
      ¬Held 0x5000 faulty ∧ faulty.fault = true) ∧
    ((pending 0x1001 fresh).pend = some ⟨0x1001, operand⟩ ∧ (pending 0x1001 fresh).schedule = [.port] ∧
      ({ pending 0x1001 fresh with schedule := [] } : State).schedule = []) ∧
    ((issuing 0x1001 fresh).pend = none ∧ (issuing 0x1001 fresh).program.head? = some ⟨0x1001, operand⟩ ∧
      (issuing 0x1001 fresh).schedule = [.host] ∧ ({ issuing 0x1001 fresh with schedule := [] } : State).busy = false) := by
  decide +kernel

theorem witness_FetchedWordRunsNext :
    decodeTableWord 80 0x133457799BBCDFF11002 = some (.ldkey 2 0x133457799BBCDFF1) ∧ fresh.busy = false ∧
    fresh.fault = false := by
  decide +kernel

theorem witness_HeldCommandHasNoStep :
    (pending 0x4000 (singleAfter 0)).pend = some ⟨0x4000, operand⟩ ∧ Held 0x4000 (pending 0x4000 (singleAfter 0)) ∧
    Held 0x0001 (pending 0x0001 (singleAfter 0)) ∧ nextAgent (pending 0x4000 (singleAfter 0)) = .port ∧
    ({ pending 0x4000 (singleAfter 0) with schedule := [] } : State).schedule = [] ∧
    (issuing 0x4000 (singleAfter 0)).pend = none ∧ (issuing 0x4000 (singleAfter 0)).program = [⟨0x4000, operand⟩] ∧
    nextAgent (issuing 0x4000 (singleAfter 0)) = .host := by
  decide +kernel

/-- The fault state meets the invariant, whatever the host has next, and any schedule. -/
theorem inv_faulty (q : List Transfer) (sch : List Agent) : Inv { faulty with program := q, schedule := sch } where
  fault_idle := fun _ => rfl
  no_cause := nofun
  some_cause := fun _ => ⟨.badKeyIndex, rfl⟩
  busy_flags := nofun
  keyerr_stale := nofun
  unloaded_zero := fun k _ => (by decide : ∀ k : Fin 3, (⟨0, 0, 0⟩ : Triple Word).get k = 0) k
  stage_lt := nofun
  plan_legal := nofun
  ksst_follows := nofun

theorem witness_FaultStateRefusesAllButRdstat :
    (Inv (issuing 0x0000 faulty) ∧ (issuing 0x0000 faulty).fault = true ∧
      Takes ⟨0x0000, operand⟩ (issuing 0x0000 faulty)) ∧
    (Inv (issuing 0x5000 faulty) ∧ (issuing 0x5000 faulty).fault = true ∧
      Takes ⟨0x5000, operand⟩ (issuing 0x5000 faulty)) :=
  ⟨⟨inv_faulty _ _, rfl, .inr ⟨rfl, rfl, rfl⟩⟩, ⟨inv_faulty _ _, rfl, .inr ⟨rfl, rfl, rfl⟩⟩⟩

theorem witness_FaultStateIsLeftOnlyByReset :
    (Inv (turn .reset faulty) ∧ (turn .reset faulty).fault = true ∧ nextAgent (turn .reset faulty) = .reset ∧
      ∃ t, step (turn .reset faulty) = .next t) ∧
    (Inv (issuing 0x6000 faulty) ∧ (issuing 0x6000 faulty).fault = true ∧ nextAgent (issuing 0x6000 faulty) ≠ .reset ∧
      ∃ t, step (issuing 0x6000 faulty) = .next t) :=
  ⟨⟨inv_faulty _ _, rfl, rfl, ⟨_, rfl⟩⟩, ⟨inv_faulty _ _, rfl, by decide, ⟨_, rfl⟩⟩⟩

theorem witness_ResetStepRestoresTheBlock :
    nextAgent (turn .reset (singleAfter 0)) = .reset ∧ (turn .reset faulty).fault = true ∧
    after (·.fault) (turn .reset faulty) = some false := by
  decide +kernel

theorem witness_HostIssuesOnlyWhenNothingPends :
    (nextAgent (turn .host fresh) = .host) ∧
    ((issuing 0x5000 fresh).pend = none ∧ (issuing 0x5000 fresh).program = [⟨0x5000, operand⟩] ∧
      ¬Held 0x5000 (issuing 0x5000 fresh)) ∧
    ((issuing 0x4000 (singleAfter 0)).pend = none ∧ (issuing 0x4000 (singleAfter 0)).program = [⟨0x4000, operand⟩] ∧
      Held 0x4000 (issuing 0x4000 (singleAfter 0))) ∧
    (turn .host { fresh with pend := some ⟨0x4000, 0⟩ }).pend ≠ none ∧ (turn .host fresh).program = [] := by
  decide +kernel

/-- A command taken; then a held one, a tick, and a step with no command. -/
theorem witness_OneResponseForEachCommandTaken :
    (Takes ⟨0x4000, operand⟩ (issuing 0x4000 fresh) ∧ ¬Held 0x4000 (issuing 0x4000 fresh) ∧
      after (·.pend) (issuing 0x4000 fresh) = some none) ∧
    (Takes ⟨0x4000, operand⟩ (issuing 0x4000 (singleAfter 0)) ∧ Held 0x4000 (issuing 0x4000 (singleAfter 0)) ∧
      after (·.responses) (issuing 0x4000 (singleAfter 0)) = some []) ∧
    (nextAgent (turn .engine (singleAfter 0)) = .engine ∧ after (·.responses) (turn .engine (singleAfter 0)) = some []) ∧
    ((turn .port fresh).pend = none ∧ after (·.responses) (turn .port fresh) = some []) := by
  decide +kernel

theorem witness_CryptSingleStartsOneStage : loaded.kvalid.getLsbD 0 = true ∧ (singleAfter 0).kvalid.getLsbD 0 = true := by
  decide +kernel

theorem witness_CryptEee3StartsThreeStages : loaded.kvalid = 0b111 := by decide +kernel

theorem witness_CryptEde3StartsThreeStages :
    (loaded.kvalid = 0b111 ∧ loaded.ede3Polarity = .ede) ∧
    (({ loaded with ede3Polarity := .ded } : State).kvalid = 0b111 ∧
      ({ loaded with ede3Polarity := .ded } : State).ede3Polarity = .ded) := by
  decide +kernel

theorem witness_CryptWithoutKeysIsRejected :
    ({ loaded with kvalid := 0b110 } : State).kvalid.getLsbD 0 = false ∧
    ({ loaded with kvalid := 0b011 } : State).kvalid ≠ 0b111 := by
  decide +kernel

theorem witness_TickPerformsOneRound :
    nextAgent (turn .engine (singleAfter 0)) = .engine ∧
    ((turn .engine (singleAfter 0)).busy = true ∧ (turn .engine (singleAfter 0)).rnd.val < 15) ∧
    ((turn .engine (singleAfter 14)).busy = true ∧ (turn .engine (singleAfter 14)).rnd.val = 14) ∧
    (turn .engine fresh).busy = false := by
  decide +kernel

theorem witness_LastRoundStartsTheNextStage :
    nextAgent (turn .engine (tripleAfter 15)) = .engine ∧ (turn .engine (tripleAfter 15)).busy = true ∧
    (turn .engine (tripleAfter 15)).rnd = 15 ∧
    (turn .engine (tripleAfter 15)).stg.val + 1 < (turn .engine (tripleAfter 15)).nst.val ∧
    (turn .engine (tripleAt 1)).stg.val + 1 < (turn .engine (tripleAt 1)).nst.val := by
  decide +kernel

theorem witness_LastStageCompletes :
    nextAgent (turn .engine (singleAfter 15)) = .engine ∧ (turn .engine (singleAfter 15)).busy = true ∧
    (turn .engine (singleAfter 15)).rnd = 15 ∧
    (turn .engine (singleAfter 15)).nst.val ≤ (turn .engine (singleAfter 15)).stg.val + 1 ∧
    (turn .engine (tripleAt 2)).nst.val ≤ (turn .engine (tripleAt 2)).stg.val + 1 := by
  decide +kernel

/-- A completing tick and a reset change `DOUT`. The value is the all-zero row of 95_test_vectors.md 2.4. -/
theorem witness_DoutIsWrittenOnlyByCompletion :
    after (·.dout) (turn .engine (singleAfter 15)) = some 0x4C598ED6C272135B ∧ (turn .engine (singleAfter 15)).dout = 0 ∧
    after (·.dout) (turn .reset { fresh with dout := 7 }) = some 0 := by
  decide +kernel

theorem witness_KeysAreWrittenOnlyByKeyCommands :
    (after (·.kvalid) (issuing 0x1000 fresh) = some 0b001 ∧ (issuing 0x1000 fresh).kvalid = 0) ∧
    (after (·.key) (issuing 0x2000 loaded) = some ⟨0, 0, 0⟩ ∧ (issuing 0x2000 loaded).key = keys) ∧
    (after (·.key) (turn .reset loaded) = some ⟨0, 0, 0⟩) := by
  decide +kernel

theorem witness_StatusFlagsAreSetOnlyByTheirEvents :
    ((issuing 0x3001 loaded).busy = false ∧ after (·.busy) (issuing 0x3001 loaded) = some true) ∧
    ((turn .engine (singleAfter 15)).done = false ∧ after (·.done) (turn .engine (singleAfter 15)) = some true) ∧
    ((issuing 0x3005 fresh).keyerr = false ∧ after (·.keyerr) (issuing 0x3005 fresh) = some true) ∧
    ((issuing 0x3009 fresh).fault = false ∧ after (·.fault) (issuing 0x3009 fresh) = some true) := by
  decide +kernel

theorem witness_StatusFlagsAreClearedOnlyByTheirEvents :
    (nextAgent (turn .engine (tripleAt 2)) ≠ .reset ∧ (turn .engine (tripleAt 2)).busy = true ∧
      after (·.busy) (turn .engine (tripleAt 2)) = some false) ∧
    (nextAgent (issuing 0x3001 { fresh with done := true }) ≠ .reset ∧
      after (·.done) (issuing 0x3001 { fresh with done := true }) = some false) ∧
    (nextAgent (issuing 0x3001 { loaded with keyerr := true }) ≠ .reset ∧
      after (·.keyerr) (issuing 0x3001 { loaded with keyerr := true }) = some false) ∧
    (nextAgent (issuing 0x6000 faulty) ≠ .reset ∧ after (·.fault) (issuing 0x6000 faulty) = some true) := by
  decide +kernel

theorem witness_PolarityNeverChanges : ∃ t, step (issuing 0x3005 loaded) = .next t := ⟨_, rfl⟩

/-- An operation in progress meets the invariant. -/
theorem inv_singleAfter_zero (p : Option Transfer) (sch : List Agent) :
    Inv { singleAfter 0 with pend := p, schedule := sch } where
  fault_idle := nofun
  no_cause := fun _ => rfl
  some_cause := nofun
  busy_flags := fun _ => ⟨rfl, rfl⟩
  keyerr_stale := nofun
  unloaded_zero := fun k _ => (by decide : ∀ k : Fin 3, (⟨0, 0, 0⟩ : Triple Word).get k = 0) k
  stage_lt := fun _ => (by decide : 0 < 1)
  plan_legal := fun _ =>
    ⟨.enc, .single, rfl, (by decide : ((0b001 : BitVec 3) &&& keyNeed .single == keyNeed .single) = true)⟩
  ksst_follows := fun _ => rfl

/-- A tick, and a command in the fault state. -/
theorem witness_EveryStepKeepsTheInvariant :
    (Inv (turn .engine (singleAfter 0)) ∧ ∃ t, step (turn .engine (singleAfter 0)) = .next t) ∧
    (Inv (issuing 0x6000 faulty) ∧ ∃ t, step (issuing 0x6000 faulty) = .next t) :=
  ⟨⟨inv_singleAfter_zero _ _, ⟨_, rfl⟩⟩, ⟨inv_faulty _ _, ⟨_, rfl⟩⟩⟩

/-- A start, and the state after the first command of a host program. -/
theorem witness_EveryReachableStateMeetsTheInvariant :
    Reachable { State.reset with program := [⟨0x4000, 0⟩], schedule := [.host], ede3Polarity := .ede } ∧
    ∃ t, step { State.reset with program := [⟨0x4000, 0⟩], schedule := [.host], ede3Polarity := .ede } = .next t ∧
      Reachable t :=
  ⟨.start _ _ _, ⟨_, rfl, .step (.start [⟨0x4000, 0⟩] [.host] .ede) rfl⟩⟩

theorem witness_AcceptedCryptIsRunning :
    loaded.fault = false ∧ keysLoaded .ede3 loaded = true ∧ (singleAfter 0).fault = false ∧
    keysLoaded .single (singleAfter 0) = true := by
  decide +kernel

/-- The single operation, at its start and before its last tick. -/
theorem running_single_start (sch : List Agent) : Running .enc .single 0 { singleAfter 0 with schedule := sch } where
  busy := rfl
  no_fault := rfl
  plan := rfl
  stage_lt := (by decide : 0 < 1)
  datapath := rfl

theorem running_single_end (sch : List Agent) : Running .enc .single 0 { singleAfter 15 with schedule := sch } where
  busy := rfl
  no_fault := rfl
  plan := rfl
  stage_lt := (by decide : 0 < 1)
  datapath := rfl

theorem witness_RunningOperationStepsTowardsRun :
    (Running .enc .single 0 (turn .engine (singleAfter 0)) ∧ nextAgent (turn .engine (singleAfter 0)) ≠ .reset ∧
      ∃ t, step (turn .engine (singleAfter 0)) = .next t) ∧
    (Running .enc .single 0 (turn .engine (singleAfter 15)) ∧ nextAgent (turn .engine (singleAfter 15)) ≠ .reset ∧
      ticksLeft (turn .engine (singleAfter 15)) = 1) :=
  ⟨⟨running_single_start _, by decide, ⟨_, rfl⟩⟩, ⟨running_single_end _, by decide, rfl⟩⟩

/-- The triple operation, at its start. -/
theorem running_triple_start (sch : List Agent) : Running .enc .eee3 0 { tripleAfter 0 with schedule := sch } where
  busy := rfl
  no_fault := rfl
  plan := rfl
  stage_lt := (by decide : 0 < 3)
  datapath := rfl

/-- All the ticks of an operation, and all but the last: 16 and 15 for a single one, 48 and 47 for a triple one. -/
theorem witness_OperationTakesSixteenTicksPerStage :
    (Running .enc .single 0 { singleAfter 0 with schedule := List.replicate 16 .engine ++ [] } ∧
      (singleAfter 0).stg = 0 ∧ (singleAfter 0).rnd = 0 ∧ 16 = 16 * (singleAfter 0).nst.val) ∧
    (Running .enc .single 0 { singleAfter 0 with schedule := List.replicate 15 .engine ++ [.host] } ∧
      15 < 16 * (singleAfter 0).nst.val) ∧
    (Running .enc .eee3 0 { tripleAfter 0 with schedule := List.replicate 48 .engine ++ [] } ∧
      (tripleAfter 0).stg = 0 ∧ (tripleAfter 0).rnd = 0 ∧ 48 = 16 * (tripleAfter 0).nst.val) ∧
    (Running .enc .eee3 0 { tripleAfter 0 with schedule := List.replicate 47 .engine ++ [.host] } ∧
      47 < 16 * (tripleAfter 0).nst.val) :=
  ⟨⟨running_single_start _, rfl, rfl, rfl⟩, ⟨running_single_start _, by decide⟩,
    ⟨running_triple_start _, rfl, rfl, rfl⟩, ⟨running_triple_start _, by decide⟩⟩

theorem witness_RunningOperationCompletes :
    Running .enc .single 0 { singleAfter 0 with schedule := [.host, .port, .engine] } ∧
    Running .enc .eee3 0 { tripleAfter 0 with schedule := [.host, .port, .engine] } ∧
    Agent.reset ∉ [Agent.host, .port, .engine] :=
  ⟨running_single_start _, running_triple_start _, by decide⟩

/-- Two states that differ in the keys, the hidden state and the parameter. -/
theorem witness_ResponsesHideKeysAndEngineState :
    let s₁ := issuing 0x5000 loaded
    let s₂ := issuing 0x5000 { loaded with key := ⟨1, 2, 3⟩, l := 9, rnd := 4, nst := 3, ede3Polarity := .ded }
    s₁ ≠ s₂ ∧ s₁.kvalid = s₂.kvalid ∧ s₁.dout = s₂.dout ∧ s₁.busy = s₂.busy ∧ s₁.done = s₂.done ∧
    s₁.keyerr = s₂.keyerr ∧ s₁.fault = s₂.fault ∧ s₁.fcause = s₂.fcause ∧ s₁.pend = s₂.pend ∧
    s₁.schedule = s₂.schedule ∧ s₁.program = s₂.program ∧ s₁.responses = s₂.responses ∧ (after (fun _ => ()) s₁).isSome = true ∧
    (after (fun _ => ()) s₂).isSome = true := by
  decide +kernel

/-- Both ends of a table's output. -/
theorem witness_PermReadsTableBits : 0 < 48 ∧ 47 < 48 := by decide

/-- The parity corner of 95_test_vectors.md 2.3. -/
theorem witness_ParityBitsHaveNoEffect :
    ∀ i, i < 64 → i % 8 ≠ 0 → (0 : Word).getLsbD i = (0x0101010101010101 : Word).getLsbD i := by
  decide +kernel

/-- One packing: the first buffer byte is the most significant. -/
def firstByteHigh : BlockPacking where
  pack b := b.b0 ++ b.b1 ++ b.b2 ++ b.b3 ++ b.b4 ++ b.b5 ++ b.b6 ++ b.b7
  unpack w :=
    ⟨w.extractLsb' 56 8, w.extractLsb' 48 8, w.extractLsb' 40 8, w.extractLsb' 32 8, w.extractLsb' 24 8,
      w.extractLsb' 16 8, w.extractLsb' 8 8, w.extractLsb' 0 8⟩
  unpack_pack := by
    rintro ⟨b0, b1, b2, b3, b4, b5, b6, b7⟩
    simp only [Bytes8.mk.injEq]
    refine ⟨?_, ?_, ?_, ?_, ?_, ?_, ?_, ?_⟩ <;>
      (apply BitVec.eq_of_getLsbD_eq
       intro i hi
       rw [BitVec.getLsbD_extractLsb', decide_eq_true hi, Bool.true_and]
       simp only [BitVec.getLsbD_append]
       grind)
  pack_unpack := by
    intro w
    apply BitVec.eq_of_getLsbD_eq
    intro i hi
    simp only [BitVec.getLsbD_append, BitVec.getLsbD_extractLsb']
    grind

theorem witness_BufferBytesRoundTrip : Nonempty BlockPacking := ⟨firstByteHigh⟩

/-- A run of one illegal word, with a reset scheduled after it. -/
def faultingRun : State :=
  { fresh with program := [⟨0x6000, 0⟩], schedule := [.host, .reset] }

/-- The state that `faultingRun` ends in: faulted, with the reset still to come. -/
def faultedEnd : State :=
  { fresh with fault := true, fcause := 1, responses := [⟨.faulted, 0⟩], schedule := [.reset] }

/-- R273: the run ends in the fault state, and the reset after its end does not count. -/
theorem witness_RunEndsAtTheFirstEnd :
    EndsIn faultingRun faultedEnd ∧ Ended faultingRun faultedEnd ∧ ¬Ended faultingRun faultingRun ∧
    faultedEnd.fault = true :=
  ⟨⟨3, by decide +kernel⟩, by decide, by decide, rfl⟩

/-- R262, R273: a held command that reset discards has no response, so the run has not ended with it. -/
theorem test_discarded_command_is_unanswered :
    let start := { singleAfter 0 with program := [⟨0x4000, 0⟩], schedule := [.host, .reset] }
    firstEnd start 3 start = none := by
  decide +kernel

theorem witness_EveryRunWithoutResetEnds :
    ({ loaded with program := [⟨0x3005, operand⟩, ⟨0x4000, 0⟩], schedule := [.host, .engine] } : State).busy = false ∧
    ({ loaded with program := [⟨0x3005, operand⟩, ⟨0x4000, 0⟩], schedule := [.host, .engine] } : State).pend = none ∧
    Agent.reset ∉ [Agent.host, .engine] := by
  decide +kernel

/-- A held command, during the operation and after the completing tick. -/
theorem pendHeld_held (t : Transfer) (h0 : t.cmd ≠ 0x0000) (h5 : t.cmd ≠ 0x5000) (sch : List Agent) :
    PendHeld { singleAfter 0 with pend := some t, schedule := sch } where
  word := by rintro _ ⟨⟩; exact ⟨h0, h5⟩
  operation := fun _ => .inl rfl
  no_fault := fun _ => rfl

/-- A tick behind which a command is held, and a host's issue into an empty `PEND`. -/
theorem witness_PendHoldsOnlyHeldCommands :
    (Inv { singleAfter 0 with pend := some ⟨0x4000, 0⟩, schedule := [.engine] } ∧
      PendHeld { singleAfter 0 with pend := some ⟨0x4000, 0⟩, schedule := [.engine] } ∧
      ∃ t, step { singleAfter 0 with pend := some ⟨0x4000, 0⟩, schedule := [.engine] } = .next t ∧ t.pend ≠ none) ∧
    (Inv (issuing 0x6000 faulty) ∧ PendHeld (issuing 0x6000 faulty) ∧ ∃ t, step (issuing 0x6000 faulty) = .next t) :=
  ⟨⟨inv_singleAfter_zero _ _, pendHeld_held _ (by decide) (by decide) _, ⟨_, rfl, nofun⟩⟩,
    ⟨inv_faulty _ _, ⟨nofun, fun h => absurd rfl h, fun h => absurd rfl h⟩, ⟨_, rfl⟩⟩⟩

end Sys2Proof.Tests
end

/-! PROOFS. What the steps do to the state's elements (10_state.md): the invariant, the events that write `DOUT`, the key
registers and the status flags, RDSTAT's answer, and what no response depends on. -/

namespace Sys2Proof.Machine

/-! ### Operation start, field by field (44_triple_sequencer.md R185) -/

section StartOperation

variable (m : SubMode) (td : Comp) (b : Word) (s : State)

@[simp] theorem startOperation_key : (startOperation m td b s).key = s.key := rfl
@[simp] theorem startOperation_kvalid : (startOperation m td b s).kvalid = s.kvalid := rfl
@[simp] theorem startOperation_dout : (startOperation m td b s).dout = s.dout := rfl
@[simp] theorem startOperation_busy : (startOperation m td b s).busy = true := rfl
@[simp] theorem startOperation_done : (startOperation m td b s).done = false := rfl
@[simp] theorem startOperation_keyerr : (startOperation m td b s).keyerr = false := rfl
@[simp] theorem startOperation_fault : (startOperation m td b s).fault = s.fault := rfl
@[simp] theorem startOperation_fcause : (startOperation m td b s).fcause = s.fcause := rfl
@[simp] theorem startOperation_rnd : (startOperation m td b s).rnd = 0 := rfl
@[simp] theorem startOperation_stg : (startOperation m td b s).stg = 0 := rfl
@[simp] theorem startOperation_nst :
    (startOperation m td b s).nst = planLength (planOf s.ede3Polarity m td) := rfl
@[simp] theorem startOperation_plan :
    (startOperation m td b s).plan = writePlan s.plan (planOf s.ede3Polarity m td) := rfl
@[simp] theorem startOperation_ksst : (startOperation m td b s).ksst = .initialized := rfl
@[simp] theorem startOperation_responses : (startOperation m td b s).responses = s.responses := rfl
@[simp] theorem startOperation_ede3Polarity : (startOperation m td b s).ede3Polarity = s.ede3Polarity := rfl

/-- The first `NST` entries of `PLAN` are the plan that was started, whatever unused entries held before. -/
theorem planEntries_startOperation :
    planEntries (startOperation m td b s) = planOf s.ede3Polarity m td := by
  rw [planEntries, startOperation_plan, startOperation_nst]
  generalize s.ede3Polarity = p
  cases m <;> cases td <;> cases p <;> rfl

/-- A plan has a stage. -/
theorem planLength_planOf_pos (p : Polarity) : 0 < (planLength (planOf p m td)).val := by
  cases m <;> cases td <;> cases p <;> decide

end StartOperation

/-! ### The tick, field by field (44_triple_sequencer.md R186 to R188) -/

section Tick

variable (s : State)

/-- The elements a tick can write; it leaves every other one. -/
theorem tick_frame :
    tick s = { s with
      dout := (tick s).dout, busy := (tick s).busy, done := (tick s).done, l := (tick s).l, r := (tick s).r
      c := (tick s).c, d := (tick s).d, rnd := (tick s).rnd, stg := (tick s).stg, ksst := (tick s).ksst } := by
  rcases tick_cases s with ⟨-, e⟩ | ⟨-, -, e⟩ | ⟨-, -, e⟩ <;> rw [e] <;> rfl

@[simp] theorem tick_key : (tick s).key = s.key := by rw [tick_frame]
@[simp] theorem tick_kvalid : (tick s).kvalid = s.kvalid := by rw [tick_frame]
@[simp] theorem tick_keyerr : (tick s).keyerr = s.keyerr := by rw [tick_frame]
@[simp] theorem tick_fault : (tick s).fault = s.fault := by rw [tick_frame]
@[simp] theorem tick_fcause : (tick s).fcause = s.fcause := by rw [tick_frame]
@[simp] theorem tick_responses : (tick s).responses = s.responses := by rw [tick_frame]

/-- A tick is the completing one, of round 15 of the last stage, or keeps `DOUT`, `BUSY` and `DONE`. -/
theorem tick_completes_or_keeps :
    (s.rnd = 15 ∧ s.nst.val ≤ s.stg.val + 1 ∧ (tick s).busy = false ∧ (tick s).done = true) ∨
    ((tick s).dout = s.dout ∧ (tick s).busy = s.busy ∧ (tick s).done = s.done) := by
  rcases tick_cases s with ⟨-, e⟩ | ⟨-, -, e⟩ | ⟨hr, hn, e⟩
  · exact .inr (by rw [e]; exact ⟨rfl, rfl, rfl⟩)
  · exact .inr (by rw [e]; exact ⟨rfl, rfl, rfl⟩)
  · exact .inl ⟨Fin.ext hr, hn, by rw [e]; exact ⟨rfl, rfl⟩⟩

end Tick

/-! ### The invariant, operation by operation -/

section Invariant

variable {s : State}

/-- The invariant speaks of the block only: `PEND`, the host's lists and the schedule are free. -/
theorem Inv.hostSide (h : Inv s) (pend : Option Transfer) (program : List Transfer) (responses : List Response)
    (schedule : List Agent) :
    Inv { s with pend := pend, program := program, responses := responses, schedule := schedule } :=
  ⟨h.fault_idle, h.no_cause, h.some_cause, h.busy_flags, h.keyerr_stale, h.unloaded_zero, h.stage_lt, h.plan_legal,
    h.ksst_follows⟩

theorem Inv.popSchedule (h : Inv s) : Inv (popSchedule s) := h.hostSide _ _ _ _

theorem Inv.taken (h : Inv s) : Inv (taken s) := h.hostSide _ _ _ _

theorem Inv.respond (h : Inv s) (code : RCode) (data : Word) : Inv (respond code data s) := h.hostSide _ _ _ _

theorem Inv.refuse (h : Inv s) : Inv (refuse s) := h.respond _ _

/-- What is left of the invariant when no operation runs. -/
theorem Inv.of_idle (hb : s.busy = false) (no_cause : s.fault = false → s.fcause = 0)
    (some_cause : s.fault = true → ∃ c : FaultCause, s.fcause = c.code)
    (keyerr_stale : s.keyerr = true → s.done = false)
    (unloaded_zero : ∀ k : Fin 3, s.kvalid.getLsbD k.val = false → s.key.get k = 0) : Inv s where
  fault_idle _ := hb
  no_cause := no_cause
  some_cause := some_cause
  busy_flags h := by simp [hb] at h
  keyerr_stale := keyerr_stale
  unloaded_zero := unloaded_zero
  stage_lt h := by simp [hb] at h
  plan_legal h := by simp [hb] at h
  ksst_follows h := by simp [hb] at h

theorem Inv.not_fault_of_busy (h : Inv s) (hb : s.busy = true) : s.fault = false := by
  cases hf : s.fault with
  | false => rfl
  | true => simp [h.fault_idle hf] at hb

/-- Three zero key registers satisfy the key clause. -/
theorem zeroKeys_get (k : Fin 3) : (⟨0, 0, 0⟩ : Triple Word).get k = 0 := by
  fin_cases k <;> rfl

theorem inv_resetStep (s : State) : Inv (resetStep s) :=
  .of_idle rfl (fun _ => rfl) (by simp) (fun _ => rfl) (fun k _ => zeroKeys_get k)

theorem Inv.raiseFault (h : Inv s) (hb : s.busy = false) (c : FaultCause) : Inv (raiseFault c s) :=
  .of_idle hb (by simp) (fun _ => ⟨c, rfl⟩) h.keyerr_stale h.unloaded_zero

theorem Inv.rejectKey (h : Inv s) (hb : s.busy = false) : Inv (rejectKey s) :=
  .of_idle hb h.no_cause h.some_cause (fun _ => rfl) h.unloaded_zero

theorem Inv.clearKeys (h : Inv s) (hb : s.busy = false) : Inv (clearKeys s) :=
  .of_idle hb h.no_cause h.some_cause h.keyerr_stale (fun k _ => zeroKeys_get k)

theorem Inv.writeKey (h : Inv s) (hb : s.busy = false) (j : Fin 3) (key : Word) : Inv (writeKey j key s) := by
  refine .of_idle hb h.no_cause h.some_cause h.keyerr_stale fun k hk => ?_
  rw [writeKey_kvalid, kvalid_after_load, Bool.or_eq_false_iff, decide_eq_false_iff_not] at hk
  obtain ⟨hne, hv⟩ := hk
  rw [writeKey_key, get_set_other _ _ hne, h.unloaded_zero k hv]

/-- Operation start establishes every clause about an operation in progress. -/
theorem Inv.startOperation (h : Inv s) (hf : s.fault = false) {m : SubMode} {td : Comp} (b : Word)
    (hk : keysLoaded td s = true) : Inv (startOperation m td b s) where
  fault_idle hf' := by simp [hf] at hf'
  no_cause := h.no_cause
  some_cause := h.some_cause
  busy_flags _ := ⟨rfl, rfl⟩
  keyerr_stale _ := rfl
  unloaded_zero := h.unloaded_zero
  stage_lt _ := planLength_planOf_pos m td s.ede3Polarity
  plan_legal _ := ⟨m, td, planEntries_startOperation m td b s, hk⟩
  ksst_follows _ := rfl

/-- After any round but the last, `KSST` follows the advanced `RND` (42_key_schedule.md R146). -/
theorem ksstBefore_succ {r : Fin 16} (h : r.val < 15) : ksstBefore (r + 1) = .round r := by
  revert r; decide

/-- A tick moves to the next round or to the next stage, both of the same plan, or ends the operation. -/
theorem Inv.tick (h : Inv s) (hb : s.busy = true) : Inv (tick s) := by
  have hf := h.not_fault_of_busy hb
  obtain ⟨hdone, hkeyerr⟩ := h.busy_flags hb
  rcases tick_cases s with ⟨hr, e⟩ | ⟨-, hn, e⟩ | ⟨-, -, e⟩ <;> rw [e]
  case inl =>
    exact { h with ksst_follows := fun _ => (ksstBefore_succ hr).symm }
  case inr.inl =>
    have hstg : (s.stg + 1).val = s.stg.val + 1 := by have := s.nst.isLt; omega
    exact { h with stage_lt := fun _ => hstg.trans_lt hn, ksst_follows := fun _ => rfl }
  case inr.inr =>
    exact .of_idle rfl h.no_cause h.some_cause (fun hk => by simp [tickRound, hkeyerr] at hk) h.unloaded_zero

end Invariant

/-- The invariant is kept by the operation of every kind of step. -/
theorem StepCase.keeps_inv {s t : State} (h : Inv s) (hc : StepCase s t) : Inv t := by
  cases hc with
  | noIssue | noTick | noCommand => exact h.popSchedule
  | reset => exact inv_resetStep _
  | tick _ hb => exact h.popSchedule.tick hb
  | hold => exact h.hostSide _ _ _ _
  | refuse => exact h.taken.refuse
  | raise _ c _ hb => exact h.taken.raiseFault hb c
  | nop | rdstat | rdout => exact h.taken.respond _ _
  | ldkey _ _ key j _ hb => exact (h.taken.writeKey hb j key).respond _ _
  | clrkey _ _ _ hb => exact (h.taken.clearKeys hb).respond _ _
  | start _ _ _ b _ _ hf _ hk => exact (h.taken.startOperation hf b hk).respond _ _
  | reject _ _ _ _ _ hb => exact h.taken.rejectKey hb

/-- Settles O36: what each kind of step does to the block keeps the invariant. -/
theorem everyStepKeepsTheInvariant : Obligations.EveryStepKeepsTheInvariant :=
  fun _ _ h hs => (stepCase hs).keeps_inv h

/-! ### Which steps write `DOUT`, the key registers and the status flags -/

/-- Settles O30: of the agents' moves, only reset and a tick reach `DOUT`, and a tick only as the completing one. -/
theorem doutIsWrittenOnlyByCompletion : Obligations.DoutIsWrittenOnlyByCompletion := by
  intro s t hs hne
  cases stepCase hs with
  | reset ha => exact .inl ha
  | tick ha hb =>
    rcases tick_completes_or_keeps (popSchedule s) with ⟨hr, hn, hb', hd'⟩ | ⟨hdout, -, -⟩
    · exact .inr ⟨ha, hb, hr, hn, hb', hd'⟩
    · exact absurd hdout hne
  | _ => exact absurd rfl hne

/-- Settles O31: LDKEY and CLRKEY, which the port performs only on a block that is neither busy nor faulted, and reset. -/
theorem keysAreWrittenOnlyByKeyCommands : Obligations.KeysAreWrittenOnlyByKeyCommands := by
  intro s t hs hne
  cases stepCase hs with
  | reset ha => exact .inl ha
  | ldkey tr k key _ ht hb hf hd => exact .inr ⟨hb, hf, tr, ht, .inl ⟨k, key, hd⟩⟩
  | clrkey tr x ht hb hf hd => exact .inr ⟨hb, hf, tr, ht, .inr ⟨x, hd⟩⟩
  | _ => simp at hne

section Flags

variable {s t : State}

theorem StepCase.busy_set (hc : StepCase s t) (h : s.busy = false) (h' : t.busy = true) :
    ∃ tr m td b, Takes tr s ∧ decode tr = .legal (cryptOf m td b) ∧ keysLoaded td s = true := by
  cases hc with
  | start tr m td b ht _ _ hd hk => exact ⟨tr, m, td, b, ht, hd, hk⟩
  | tick _ hb => simp [h] at hb
  | hold _ _ hb => simp [h] at hb
  | _ => simp [h] at h'

theorem StepCase.done_set (hc : StepCase s t) (h : s.done = false) (h' : t.done = true) :
    nextAgent s = .engine ∧ s.busy = true ∧ s.rnd = 15 ∧ s.nst.val ≤ s.stg.val + 1 := by
  cases hc with
  | tick ha hb =>
    rcases tick_completes_or_keeps (popSchedule s) with ⟨hr, hn, -, -⟩ | ⟨-, -, hdone⟩
    · exact ⟨ha, hb, hr, hn⟩
    · simp [hdone, h] at h'
  | _ => simp [h] at h'

theorem StepCase.keyerr_set (hc : StepCase s t) (h : s.keyerr = false) (h' : t.keyerr = true) :
    ∃ tr m td b, Takes tr s ∧ decode tr = .legal (cryptOf m td b) ∧ keysLoaded td s = false := by
  cases hc with
  | reject tr m td b ht _ _ hd hk => exact ⟨tr, m, td, b, ht, hd, hk⟩
  | _ => simp [h] at h'

theorem StepCase.fault_set (hc : StepCase s t) (h : s.fault = false) (h' : t.fault = true) :
    s.busy = false ∧ ∃ tr c, Takes tr s ∧ decode tr = .illegal c ∧ t.fcause = c.code := by
  cases hc with
  | raise tr c ht hb _ hd => exact ⟨hb, tr, c, ht, hd, rfl⟩
  | _ => simp [h] at h'

theorem StepCase.busy_cleared (hc : StepCase s t) (hr : nextAgent s ≠ .reset) (h : s.busy = true)
    (h' : t.busy = false) : nextAgent s = .engine ∧ s.rnd = 15 ∧ s.nst.val ≤ s.stg.val + 1 ∧ t.done = true := by
  cases hc with
  | reset ha => exact absurd ha hr
  | tick ha =>
    rcases tick_completes_or_keeps (popSchedule s) with ⟨hr, hn, -, hdone⟩ | ⟨-, hbusy, -⟩
    · exact ⟨ha, hr, hn, hdone⟩
    · simp [hbusy, h] at h'
  | _ => simp [h] at h'

theorem StepCase.done_cleared (hc : StepCase s t) (hr : nextAgent s ≠ .reset) (h : s.done = true)
    (h' : t.done = false) : ∃ tr m td b, Takes tr s ∧ decode tr = .legal (cryptOf m td b) := by
  cases hc with
  | reset ha => exact absurd ha hr
  | tick =>
    rcases tick_completes_or_keeps (popSchedule s) with ⟨-, -, -, hdone⟩ | ⟨-, -, hdone⟩ <;> simp [hdone, h] at h'
  | start tr m td b ht _ _ hd | reject tr m td b ht _ _ hd => exact ⟨tr, m, td, b, ht, hd⟩
  | _ => simp [h] at h'

theorem StepCase.keyerr_cleared (hc : StepCase s t) (hr : nextAgent s ≠ .reset) (h : s.keyerr = true)
    (h' : t.keyerr = false) :
    ∃ tr m td b, Takes tr s ∧ decode tr = .legal (cryptOf m td b) ∧ keysLoaded td s = true := by
  cases hc with
  | reset ha => exact absurd ha hr
  | start tr m td b ht _ _ hd hk => exact ⟨tr, m, td, b, ht, hd, hk⟩
  | _ => simp [h] at h'

theorem StepCase.fault_kept (hc : StepCase s t) (hr : nextAgent s ≠ .reset) (h : s.fault = true) :
    t.fault = true ∧ t.fcause = s.fcause := by
  cases hc with
  | reset ha => exact absurd ha hr
  | raise _ _ _ _ hf => simp [h] at hf
  | _ => simp [h]

end Flags

/-- Settles O32: the four setting events, one lemma a flag. -/
theorem statusFlagsAreSetOnlyByTheirEvents : Obligations.StatusFlagsAreSetOnlyByTheirEvents := fun _ _ hs =>
  have hc := stepCase hs
  ⟨hc.busy_set, hc.done_set, hc.keyerr_set, hc.fault_set⟩

/-- Settles O33: the clearing events, one lemma a flag; `FAULT` and `FCAUSE` have none but reset. -/
theorem statusFlagsAreClearedOnlyByTheirEvents : Obligations.StatusFlagsAreClearedOnlyByTheirEvents :=
  fun _ _ hs hr =>
  have hc := stepCase hs
  ⟨hc.busy_cleared hr, hc.done_cleared hr, hc.keyerr_cleared hr, hc.fault_kept hr⟩

/-! ### RDSTAT's answer (10_state.md R24, R30) -/

/-- `STATUS`, zero-extended, bit by bit. -/
theorem statusWord_getLsbD (s : State) (i : Nat) :
    (zext64 (statusWord s)).getLsbD i =
      if i = 0 then s.busy else if i = 1 then s.done else if i = 2 then s.keyerr else if i = 3 then s.fault
      else if i < 8 then s.fcause.getLsbD (i - 4) else s.kvalid.getLsbD (i - 8) := by
  simp only [zext64, statusWord, BitVec.getLsbD_setWidth, BitVec.getLsbD_append]
  grind

/-- Settles O25: each field of the answer, by its bits of `STATUS`. -/
theorem rdstatAnswersStatusFields : Obligations.RdstatAnswersStatusFields := by
  intro opnd s
  have field {n : Nat} (lo : Nat) {v : BitVec n}
      (h : ∀ i < n, (zext64 (statusWord s)).getLsbD (lo + i) = v.getLsbD i) :
      (zext64 (statusWord s)).extractLsb' lo n = v :=
    BitVec.eq_of_getLsbD_eq fun i hi => by rw [BitVec.getLsbD_extractLsb', h i hi, decide_eq_true hi, Bool.true_and]
  refine ⟨zext64 (statusWord s), rfl, statusWord_getLsbD s 0, statusWord_getLsbD s 1, statusWord_getLsbD s 2,
    statusWord_getLsbD s 3, field 4 fun i hi => ?fcause, field 8 fun i hi => ?kvalid, field 11 fun i hi => ?zero⟩
  case fcause | kvalid | zero =>
    rw [statusWord_getLsbD]
    grind

/-! ### What a response depends on (60_exceptions.md R238, R240) -/

/-- Two states agree on everything but the key registers, the hidden registers and the open parameter. -/
structure SameView (s₁ s₂ : State) : Prop where
  kvalid : s₁.kvalid = s₂.kvalid
  dout : s₁.dout = s₂.dout
  busy : s₁.busy = s₂.busy
  done : s₁.done = s₂.done
  keyerr : s₁.keyerr = s₂.keyerr
  fault : s₁.fault = s₂.fault
  fcause : s₁.fcause = s₂.fcause
  pend : s₁.pend = s₂.pend
  schedule : s₁.schedule = s₂.schedule
  program : s₁.program = s₂.program
  responses : s₁.responses = s₂.responses

section View

variable {s₁ s₂ t₁ t₂ : State}

theorem SameView.symm (h : SameView s₁ s₂) : SameView s₂ s₁ :=
  ⟨h.kvalid.symm, h.dout.symm, h.busy.symm, h.done.symm, h.keyerr.symm, h.fault.symm, h.fcause.symm, h.pend.symm,
    h.schedule.symm, h.program.symm, h.responses.symm⟩

theorem SameView.statusWord (h : SameView s₁ s₂) : statusWord s₁ = statusWord s₂ := by
  simp only [Machine.statusWord, h.kvalid, h.fcause, h.fault, h.keyerr, h.done, h.busy]

theorem SameView.keysLoaded (h : SameView s₁ s₂) (td : Comp) : keysLoaded td s₁ = keysLoaded td s₂ := by
  simp only [Machine.keysLoaded, h.kvalid]

theorem SameView.held (h : SameView s₁ s₂) (cmd : BitVec 16) : held cmd s₁ = held cmd s₂ := by
  rw [Machine.held, Machine.held, h.busy]

theorem SameView.nextAgent (h : SameView s₁ s₂) : nextAgent s₁ = nextAgent s₂ := by
  have hport : portEnabled s₁ = portEnabled s₂ := by
    unfold portEnabled
    rw [h.pend]
    simp only [h.held]
  unfold Machine.nextAgent defaultAgent
  rw [h.schedule, hport, h.busy]

theorem SameView.takes (h : SameView s₁ s₂) {tr : Transfer} (ht : Takes tr s₁) : Takes tr s₂ := by
  rw [Takes, h.nextAgent, h.pend, h.program] at ht
  exact ht

theorem SameView.admission (h : SameView s₁ s₂) (tr : Transfer) : admission tr s₁ = admission tr s₂ := by
  have hrefused : refused tr.cmd s₁ = refused tr.cmd s₂ := by rw [refused, refused, h.fault]
  unfold Machine.admission
  rw [h.held, hrefused]

/-- The command step finds two such states as alike as they were. -/
theorem SameView.taking (h : SameView s₁ s₂) (tr : Transfer) :
    SameView { taken s₁ with pend := some tr } { taken s₂ with pend := some tr } :=
  { h with
    pend := rfl, schedule := congrArg List.tail h.schedule
    program := by simp only [taken_program, h.nextAgent, h.program] }

theorem SameView.takePend (h : SameView s₁ s₂) : SameView (takePend s₁) (takePend s₂) := { h with pend := rfl }

/-- A CRYPT's answer depends on `KVALID` alone. -/
theorem cryptCommand_responses (m : SubMode) (td : Comp) (b : Word) (s : State) :
    (cryptCommand m td b s).responses = s.responses ++ [⟨if keysLoaded td s then .ok else .rejKey, 0⟩] := by
  rcases cryptCommand_cases m td b s with ⟨hk, e⟩ | ⟨hk, e⟩ <;> simp [e, hk]

theorem SameView.exec_responses (h : SameView s₁ s₂) {i : Instr} (h₁ : exec i s₁ = .next t₁)
    (h₂ : exec i s₂ = .next t₂) : t₁.responses = t₂.responses := by
  cases i with
  | ldkey k key =>
    simp only [exec, execLdkey] at h₁ h₂
    cases hk : keyIndex k <;> rw [hk] at h₁ h₂ <;> cases h₁ <;> cases h₂ <;> simp [h.responses]
  | nop | clrkey => cases h₁; cases h₂; simp [h.responses]
  | rdout => cases h₁; cases h₂; simp [h.responses, h.dout]
  | rdstat => cases h₁; cases h₂; simp [h.responses, h.statusWord]
  | _ => cases h₁; cases h₂; simp [cryptCommand_responses, h.responses, h.keysLoaded]

theorem SameView.commandStep_responses (h : SameView s₁ s₂) {tr : Transfer} (h₁ : commandStep tr s₁ = .next t₁)
    (h₂ : commandStep tr s₂ = .next t₂) : t₁.responses = t₂.responses := by
  rw [commandStep, h.admission] at h₁
  rw [commandStep] at h₂
  cases ha : Machine.admission tr s₂ with rw [ha] at h₁ h₂
  | hold => cases h₁; cases h₂; exact h.responses
  | refuse | raise => cases h₁; cases h₂; simp [h.responses]
  | perform i => exact h.takePend.exec_responses h₁ h₂

/-- A step that takes no command answers nothing. -/
theorem StepCase.responses_of_not_takes {s t : State} (hc : StepCase s t) (hn : ∀ tr, ¬Takes tr s) :
    t.responses = s.responses := by
  cases hc with
  | noIssue | noTick | noCommand | reset | tick => simp
  | _ tr => exact absurd ‹Takes tr s› (hn tr)

theorem SameView.step_responses (h : SameView s₁ s₂) (h₁ : step s₁ = .next t₁) (h₂ : step s₂ = .next t₂) :
    t₁.responses = t₂.responses := by
  by_cases ht : ∃ tr, Takes tr s₁
  · obtain ⟨tr, ht⟩ := ht
    rw [step_of_takes ht] at h₁
    rw [step_of_takes (h.takes ht)] at h₂
    exact (h.taking tr).commandStep_responses h₁ h₂
  · have hn₁ : ∀ tr, ¬Takes tr s₁ := not_exists.mp ht
    have hn₂ : ∀ tr, ¬Takes tr s₂ := fun tr ht₂ => hn₁ tr (h.symm.takes ht₂)
    rw [(stepCase h₁).responses_of_not_takes hn₁, (stepCase h₂).responses_of_not_takes hn₂, h.responses]

end View

/-- Settles O42: the answer of a step is made of what both states agree on. -/
theorem responsesHideKeysAndEngineState : Obligations.ResponsesHideKeysAndEngineState :=
  fun _ _ _ _ hkvalid hdout hbusy hdone hkeyerr hfault hfcause hpend hschedule hprogram hresponses h₁ h₂ =>
  have view : SameView _ _ :=
    ⟨hkvalid, hdout, hbusy, hdone, hkeyerr, hfault, hfcause, hpend, hschedule, hprogram, hresponses⟩
  view.step_responses h₁ h₂

end Sys2Proof.Machine

/-! PROOFS. The transfers of a host's commands and of its buffer bytes (20_memory.md): one response for each command taken, and
the round trip of a buffer, with the round trips of the permutation unit, the key schedule, the transform and the sequencer that
it rests on. -/

namespace Sys2Proof.Machine

open Sys2Proof.Claims

/-! ### One response for each command taken (20_memory.md R58, 30_encoding.md R71) -/

section Responses

variable {s t : State}

/-- The model's test for a held command is the rule's. -/
theorem held_eq_false_iff {cmd : BitVec 16} : held cmd s = false ↔ ¬Held cmd s := by
  simp [held]

/-- A step takes at most one transfer. -/
theorem Takes.unique {tr tr' : Transfer} (h : Takes tr s) (h' : Takes tr' s) : tr = tr' := by
  rcases h with ⟨ha, hp⟩ | ⟨ha, -, hq⟩ <;> rcases h' with ⟨ha', hp'⟩ | ⟨ha', -, hq'⟩
  · exact Option.some.inj (hp.symm.trans hp')
  · cases ha.symm.trans ha'
  · cases ha.symm.trans ha'
  · exact Option.some.inj (hq.symm.trans hq')

/-- A step to `t` leaves `PEND` empty and adds one response, with `RDATA = 0` unless it is `OK`. -/
def Answers (s t : State) : Prop :=
  t.pend = none ∧ ∃ r : Response, t.responses = s.responses ++ [r] ∧ (r.code ≠ .ok → r.data = 0)

/-- What a step does to the responses: it takes a command and answers it, takes a held command, or takes none. -/
theorem StepCase.response_cases (hc : StepCase s t) :
    (∃ tr, Takes tr s ∧ ¬Held tr.cmd s ∧ Answers s t) ∨
    (∃ tr, Takes tr s ∧ Held tr.cmd s ∧ t.responses = s.responses) ∨
    ((∀ tr, ¬Takes tr s) ∧ t.responses = s.responses) := by
  have idle {cmd : BitVec 16} (hb : s.busy = false) : ¬Held cmd s := fun ⟨hb', _⟩ => by simp [hb] at hb'
  have ok {u : State} {w : Word} (hu : u.pend = none) (hr : u.responses = s.responses) : Answers s (respond .ok w u) :=
    ⟨hu, ⟨.ok, w⟩, congrArg (· ++ [_]) hr, fun h => absurd rfl h⟩
  cases hc with
  | hold tr ht hb h0 h5 => exact .inr (.inl ⟨tr, ht, ⟨hb, h0, h5⟩, rfl⟩)
  | noIssue ha hp =>
    refine .inr (.inr ⟨?_, rfl⟩)
    rintro tr (⟨ha', -⟩ | ⟨-, hp', hq⟩)
    · cases ha.symm.trans ha'
    · rcases hp with hp | hp
      · exact hp hp'
      · simp [hp] at hq
  | noCommand ha hp => exact .inr (.inr ⟨by simp [Takes, ha, hp], rfl⟩)
  | reset ha | noTick ha => exact .inr (.inr ⟨by simp [Takes, ha], rfl⟩)
  | tick ha => exact .inr (.inr ⟨by simp [Takes, ha], by simp⟩)
  | refuse tr ht hh => exact .inl ⟨tr, ht, held_eq_false_iff.mp hh, rfl, _, rfl, fun _ => rfl⟩
  | raise tr _ ht hb | reject tr _ _ _ ht hb => exact .inl ⟨tr, ht, idle hb, rfl, _, rfl, fun _ => rfl⟩
  | nop tr _ ht hh | rdstat tr _ ht hh => exact .inl ⟨tr, ht, held_eq_false_iff.mp hh, ok rfl rfl⟩
  | rdout tr _ ht hb | clrkey tr _ ht hb | ldkey tr _ _ _ ht hb | start tr _ _ _ ht hb =>
    exact .inl ⟨tr, ht, idle hb, ok rfl rfl⟩

end Responses

/-- Settles O14: of the three things a step can do to the responses, the transfer taken says which it did. -/
theorem oneResponseForEachCommandTaken : Obligations.OneResponseForEachCommandTaken := by
  intro s t hs
  rcases (stepCase hs).response_cases with ⟨tr, ht, hn, ha⟩ | ⟨tr, ht, hh, hr⟩ | ⟨hnone, hr⟩
  · exact ⟨fun _ _ _ => ha, fun h => absurd (h tr ht) hn⟩
  · exact ⟨fun tr' ht' hn' => absurd (ht.unique ht' ▸ hh) hn', fun _ => hr⟩
  · exact ⟨fun tr' ht' => absurd ht' (hnone tr'), fun _ => hr⟩

/-! ### The permutation unit (40_bit_transform.md R101, R105) -/

/-- Output bit `i` is the input bit that the table names for it (R101). -/
theorem perm_getLsbD {nIn nOut : Nat} (T : PermTable nIn nOut) (src : BitVec nIn) {i : Nat} (hi : i < nOut) :
    (perm T src).getLsbD i = src.getLsbD (nIn - T.entries.getD (nOut - 1 - i) 0) := by
  have hl : i < T.entries.length := by rw [T.length_eq]; exact hi
  have hrev : T.entries.reverse.getD i 0 = T.entries.getD (nOut - 1 - i) 0 := by
    rw [List.getD_eq_getElem?_getD, List.getElem?_reverse hl, T.length_eq, List.getD_eq_getElem?_getD]
  rw [perm, foldl_permShift_getLsbD _ _ _ _ hi, if_pos hl, tb, hrev]

/-- Two tables on `n` bits are inverse when each bit's source in the second has that bit as its source in the first. -/
theorem perm_perm_of_inverse {n : Nat} (T U : PermTable n n)
    (h : ∀ i : Fin n, n - U.entries.getD (n - 1 - i) 0 < n ∧
      n - T.entries.getD (n - 1 - (n - U.entries.getD (n - 1 - i) 0)) 0 = i) (x : BitVec n) :
    perm U (perm T x) = x := by
  refine BitVec.eq_of_getLsbD_eq fun i hi => ?_
  obtain ⟨hlt, hsrc⟩ := h ⟨i, hi⟩
  rw [perm_getLsbD U _ hi, perm_getLsbD T _ hlt, hsrc]

@[simp] theorem perm_fp_perm_ip (x : Word) : perm fp (perm ip x) = x := perm_perm_of_inverse ip fp (by decide) x

@[simp] theorem perm_ip_perm_fp (x : Word) : perm ip (perm fp x) = x := perm_perm_of_inverse fp ip (by decide) x

/-! ### The key schedule as rotations of its start (42_key_schedule.md R143, R144, R148) -/

/-- Both key halves, rotated left by `a`. -/
def rotatedKeys (k : KeyHalves) (a : Nat) : KeyHalves := { c := rotl28 k.c a, d := rotl28 k.d a }

/-- The left rotation of the advance for round `r`; a right rotation is the left one by the rest of the width. -/
def advanceRotation (m : SubMode) (r : Fin 16) : Nat :=
  match m with
  | .enc => shiftEnc.amount r
  | .dec => (28 - shiftDec.amount r) % 28

/-- The left rotation of the first `n` advances together, modulo the width. -/
def keyRotation (m : SubMode) : Nat → Nat
  | 0 => 0
  | n + 1 => (keyRotation m n + advanceRotation m (Fin.ofNat 16 n)) % 28

theorem ShiftTable.amount_le_two (T : ShiftTable) (r : Fin 16) : T.amount r ≤ 2 :=
  T.at_most_two _ (List.getElem_mem _)

theorem advanceRotation_le (m : SubMode) (r : Fin 16) : advanceRotation m r ≤ 28 := by
  cases m with
  | enc => have := shiftEnc.amount_le_two r; simp only [advanceRotation]; omega
  | dec => simp only [advanceRotation]; omega

theorem keyRotation_le (m : SubMode) (n : Nat) : keyRotation m n ≤ 28 := by
  cases n <;> simp only [keyRotation] <;> omega

/-- In either sub-mode an advance is a left rotation. -/
theorem ksAdvance_eq_rotatedKeys (r : Fin 16) (m : SubMode) (k : KeyHalves) :
    ksAdvance r m k = rotatedKeys k (advanceRotation m r) := by
  cases m with
  | enc => rfl
  | dec =>
    have ha : shiftDec.amount r ≤ 28 := by have := shiftDec.amount_le_two r; omega
    simp only [ksAdvance, rotatedKeys, advanceRotation, rotr28_eq_rotl28 _ _ ha]

/-- The key halves after `n` advances are the start's, rotated once. -/
theorem keyTrace_eq_rotatedKeys (m : SubMode) (key : Word) (n : Nat) :
    keyTrace m key n = rotatedKeys (ksInit key) (keyRotation m n) := by
  induction n with
  | zero => simp [keyTrace, keyRotation, rotatedKeys]
  | succ n ih =>
    simp only [keyTrace, ih, ksAdvance_eq_rotatedKeys, rotatedKeys, keyRotation,
      rotl28_rotl28 _ _ _ (keyRotation_le m n) (advanceRotation_le m _)]

theorem keyRotation_flip (m : SubMode) (r : Fin 16) : keyRotation m.flip (r + 1) = keyRotation m (16 - r) := by
  revert r
  cases m <;> decide

/-- Round `r` of one sub-mode has the key halves of round `15 - r` of the other (R148). -/
theorem keyTrace_flip (m : SubMode) (key : Word) {r : Nat} (hr : r < 16) :
    keyTrace m.flip key (r + 1) = keyTrace m key (16 - r) := by
  rw [keyTrace_eq_rotatedKeys, keyTrace_eq_rotatedKeys, keyRotation_flip m ⟨r, hr⟩]

/-! ### The transform and its mirror image (43_feistel_engine.md R164 to R167) -/

/-- A round of a stage, on the Feistel halves. -/
theorem stageTrace_succ_halves (m : SubMode) (block key : Word) (n : Nat) :
    (stageTrace m (stageStart block key) (n + 1)).halves =
      round m (roundKey (keyTrace m key (n + 1))) (stageTrace m (stageStart block key) n).halves := by
  simp only [stageTrace, stageRound, keyTrace, stageTrace_keys]

/-- IP undoes the FP of a stage's output, so the next stage starts from the halves that this one ended with. -/
theorem stageStart_stageOutput_halves (p : Datapath) (key : Word) :
    (stageStart (stageOutput p) key).halves = p.halves := by
  simp only [stageStart, stageOutput, perm_ip_perm_fp]
  exact congrArg₂ Halves.mk BitVec.extractLsb'_append_eq_left BitVec.extractLsb'_append_eq_right

/-- FP undoes the IP of a stage's start. -/
theorem stageOutput_of_halves {p : Datapath} {block key : Word} (h : p.halves = (stageStart block key).halves) :
    stageOutput p = block := by
  have hjoin (x : Word) : x.extractLsb' 32 32 ++ x.extractLsb' 0 32 = x :=
    (BitVec.extractLsb'_append_extractLsb'_eq_extractLsb' rfl).trans BitVec.extractLsb'_eq_self
  rw [stageOutput, h, stageStart, hjoin, perm_fp_perm_ip]

/-- The halves after `n` rounds of the opposite transform of a result are those `n` rounds before that result (R167). -/
theorem stageTrace_flip_halves (m : SubMode) (block key : Word) {n : Nat} (hn : n ≤ 16) :
    (stageTrace m.flip (stageStart (transform block key m) key) n).halves =
      (stageTrace m (stageStart block key) (16 - n)).halves := by
  induction n with
  | zero => exact stageStart_stageOutput_halves _ key
  | succ n ih =>
    have hprev : 16 - n = 16 - (n + 1) + 1 := by omega
    rw [stageTrace_succ_halves, ih (by omega), keyTrace_flip m key (by omega), hprev, stageTrace_succ_halves,
      round_flip_round]

/-- Each sub-mode undoes the other (R166, R168). -/
theorem transform_flip_transform (block key : Word) (m : SubMode) :
    transform (transform block key m) key m.flip = block :=
  stageOutput_of_halves (stageTrace_flip_halves m block key le_rfl)

/-! ### The sequencer's round trip (44_triple_sequencer.md R180, R191) -/

/-- A stage with the opposite sub-mode. -/
def Stage.flip (st : Stage) : Stage := ⟨st.k, st.m.flip⟩

/-- The plan of the opposite sub-mode is the same plan backwards, each stage flipped. -/
theorem planOf_flip (p : Polarity) (m : SubMode) (td : Comp) :
    planOf p m.flip td = (planOf p m td).reverse.map Stage.flip := by
  cases m <;> cases td <;> cases p <;> rfl

theorem runStages_cons (keys : Triple Word) (st : Stage) (stages : List Stage) (block : Word) :
    runStages keys (st :: stages) block = runStages keys stages (transform block (keys.get st.k) st.m) := rfl

/-- Stages run backwards, each flipped, undo the stages. -/
theorem runStages_reverse_flip (keys : Triple Word) (stages : List Stage) (block : Word) :
    runStages keys (stages.reverse.map Stage.flip) (runStages keys stages block) = block := by
  induction stages generalizing block with
  | nil => rfl
  | cons st stages ih =>
    rw [List.reverse_cons, List.map_append, runStages_append, runStages_cons, ih]
    exact transform_flip_transform block (keys.get st.k) st.m

/-- A CRYPT of the opposite sub-mode undoes a CRYPT, for every composition and polarity. -/
theorem run_flip_run (p : Polarity) (keys : Triple Word) (block : Word) (m : SubMode) (td : Comp) :
    run p keys (run p keys block m td) m.flip td = block := by
  rw [run, run, planOf_flip, runStages_reverse_flip]

/-! ### Buffer bytes (20_memory.md R54) -/

/-- Settles O56: packing undoes unpacking between the two runs, which undo each other. -/
theorem bufferBytesRoundTrip : Obligations.BufferBytesRoundTrip := by
  intro packing p keys td bs
  have hrun : run p keys (run p keys (packing.pack bs) .enc td) .dec td = packing.pack bs :=
    run_flip_run p keys (packing.pack bs) .enc td
  rw [runBytes, runBytes, packing.pack_unpack, hrun, packing.unpack_pack]

end Sys2Proof.Machine

/-! PROOFS. The encoding (30_encoding.md): decoder and encoder undo each other on the 13 legal words, every other word takes the
fault entry, and the operands that have no use. -/

namespace Sys2Proof

open Machine Claims

/-! ### A command word and its fields (R72 to R75) -/

section Fields

variable (cmd : BitVec 16)

/-- A word of an opcode without fields: `OP` and the reserved bits. -/
theorem cmd_eq_op_resv : cmd = ((opOf cmd).setWidth 16 <<< 12) ||| (cmd &&& 0x0FFF#16) := by
  ext i hi
  interval_cases i <;> simp [opOf]

/-- A word in the format of LDKEY (R74). -/
theorem cmd_eq_op_resv_k :
    cmd = ((opOf cmd).setWidth 16 <<< 12) ||| (cmd &&& 0x0FFC#16) ||| (kOf cmd).setWidth 16 := by
  ext i hi
  interval_cases i <;> simp [opOf, kOf]

/-- A word in the format of CRYPT (R75). -/
theorem cmd_eq_op_resv_td_m :
    cmd = ((opOf cmd).setWidth 16 <<< 12) ||| (cmd &&& 0x0FF8#16) ||| ((tdOf cmd).setWidth 16 <<< 1) |||
      (mOf cmd).setWidth 16 := by
  ext i hi
  interval_cases i <;> simp [opOf, tdOf, mOf]

end Fields

/-- `M` is the bit of the sub-mode that it selects (R76). -/
@[simp] theorem bits_subModeOfBits (m : BitVec 1) : (subModeOfBits m).bits = m := by
  revert m; decide

/-- `TD` is the bits of the composition that it selects (R77). -/
theorem bits_of_compOfBits {b : BitVec 2} {td : Comp} (h : compOfBits b = some td) : td.bits = b := by
  revert b; cases td <;> decide

theorem Comp.bits_ne_three (td : Comp) : td.bits ≠ 3#2 := by
  cases td <;> decide

theorem opOf_cryptWord (m : SubMode) (td : Comp) : opOf (cryptWord m td) = 3 := by
  cases m <;> cases td <;> rfl

theorem mOf_cryptWord (m : SubMode) (td : Comp) : mOf (cryptWord m td) = m.bits := by
  cases m <;> cases td <;> rfl

theorem tdOf_cryptWord (m : SubMode) (td : Comp) : tdOf (cryptWord m td) = td.bits := by
  cases m <;> cases td <;> rfl

theorem cryptWord_and_resv (m : SubMode) (td : Comp) : cryptWord m td &&& resv 3#4 = 0#16 := by
  cases m <;> cases td <;> rfl

theorem encode_cryptOf (m : SubMode) (td : Comp) (block : Word) :
    encode (cryptOf m td block) = ⟨cryptWord m td, block⟩ := by
  cases m <;> cases td <;> rfl

theorem wellFormed_ldkey {k : BitVec 2} {key : Word} : (Instr.ldkey k key).WellFormed = true ↔ k ≠ 3 := by
  simp [Instr.WellFormed]

theorem wellFormed_cryptOf (m : SubMode) (td : Comp) (block : Word) : (cryptOf m td block).WellFormed = true := by
  cases m <;> cases td <;> rfl

/-! ### Decoding undoes encoding -/

theorem decode_clrkey_word (opnd : Word) : decode ⟨0x2000, opnd⟩ = .legal (.clrkey opnd) := by
  simp [decode, opOf, resv]

theorem decode_rdout_word (opnd : Word) : decode ⟨0x4000, opnd⟩ = .legal (.rdout opnd) := by
  simp [decode, opOf, resv]

theorem decode_ldkey_word {k : BitVec 2} (hk : k ≠ 3#2) (key : Word) :
    decode ⟨0x1000 ||| k.setWidth 16, key⟩ = .legal (.ldkey k key) := by
  have hop : opOf (0x1000#16 ||| k.setWidth 16) = 1#4 := by revert k; decide
  have hkOf : kOf (0x1000#16 ||| k.setWidth 16) = k := by revert k; decide
  have hresv : (0x1000#16 ||| k.setWidth 16) &&& resv 1#4 = 0#16 := by revert k; decide
  simp [decode, hop, hkOf, hresv, hk]

theorem decode_cryptWord (m : SubMode) (td : Comp) (block : Word) :
    decode ⟨cryptWord m td, block⟩ = .legal (cryptOf m td block) := by
  simp [decode, opOf_cryptWord, tdOf_cryptWord, mOf_cryptWord, cryptWord_and_resv, td.bits_ne_three]

theorem decode_encode {i : Instr} (h : i.WellFormed = true) : decode (encode i) = .legal i := by
  cases i with
  | nop opnd => exact decode_nop_word opnd
  | ldkey k key => exact decode_ldkey_word (wellFormed_ldkey.mp h) key
  | clrkey opnd => exact decode_clrkey_word opnd
  | cryptDSingle block => exact decode_cryptWord .dec .single block
  | cryptESingle block => exact decode_cryptWord .enc .single block
  | cryptDEee3 block => exact decode_cryptWord .dec .eee3 block
  | cryptEEee3 block => exact decode_cryptWord .enc .eee3 block
  | cryptDEde3 block => exact decode_cryptWord .dec .ede3 block
  | cryptEEde3 block => exact decode_cryptWord .enc .ede3 block
  | rdout opnd => exact decode_rdout_word opnd
  | rdstat opnd => exact decode_rdstat_word opnd

/-- Settles O1: each command's word has the fields the decoder selects that command by. -/
theorem decodeEncodeRoundTrip : Obligations.DecodeEncodeRoundTrip := fun _ => decode_encode

/-! ### A transfer that decodes is an encoding -/

/-- Which command the fields of a transfer select (R73 to R75), reserved bits aside. -/
inductive Selects (t : Transfer) : Instr → Prop where
  | nop (hop : opOf t.cmd = 0) : Selects t (.nop t.opnd)
  | ldkey (hop : opOf t.cmd = 1) (hk : kOf t.cmd ≠ 3) : Selects t (.ldkey (kOf t.cmd) t.opnd)
  | clrkey (hop : opOf t.cmd = 2) : Selects t (.clrkey t.opnd)
  | crypt (td : Comp) (hop : opOf t.cmd = 3) (htd : compOfBits (tdOf t.cmd) = some td) :
      Selects t (cryptOf (subModeOfBits (mOf t.cmd)) td t.opnd)
  | rdout (hop : opOf t.cmd = 4) : Selects t (.rdout t.opnd)
  | rdstat (hop : opOf t.cmd = 5) : Selects t (.rdstat t.opnd)

/-- What a transfer that decodes has passed: the reserved bits are 0, and its fields select the command. -/
theorem selects_of_decode {t : Transfer} {i : Instr} (h : decode t = .legal i) :
    t.cmd &&& resv (opOf t.cmd) = 0 ∧ Selects t i := by
  simp only [decode] at h
  split_ifs at h with h6 hk htd hr h0 h1 h2 h3 h4
  all_goals refine ⟨not_not.mp hr, ?_⟩
  · cases h; exact .nop h0
  · cases h; exact .ldkey h1 fun h3 => hk ⟨h1, h3⟩
  · cases h; exact .clrkey h2
  · cases hc : compOfBits (tdOf t.cmd) with
    | none => rw [hc] at h; cases h
    | some td => rw [hc] at h; cases h; exact .crypt td h3 hc
  · cases h; exact .rdout h4
  · cases h; exact .rdstat (by bv_omega)

/-- The word of an opcode without fields. -/
theorem cmd_eq_of_op {cmd : BitVec 16} {op : BitVec 4} (hop : opOf cmd = op) (hr : cmd &&& 0x0FFF#16 = 0) :
    op.setWidth 16 <<< 12 = cmd := by
  have hcmd := cmd_eq_op_resv cmd
  rw [hop, hr] at hcmd
  simpa using hcmd.symm

/-- The word of an LDKEY. -/
theorem cmd_eq_of_op_one {cmd : BitVec 16} (hop : opOf cmd = 1) (hr : cmd &&& 0x0FFC#16 = 0) :
    0x1000#16 ||| (kOf cmd).setWidth 16 = cmd := by
  have hcmd := cmd_eq_op_resv_k cmd
  rw [hop, hr] at hcmd
  exact hcmd.symm

/-- The word of a CRYPT. -/
theorem cmd_eq_of_op_three {cmd : BitVec 16} {td : Comp} (hop : opOf cmd = 3) (hr : cmd &&& 0x0FF8#16 = 0)
    (htd : compOfBits (tdOf cmd) = some td) : cryptWord (subModeOfBits (mOf cmd)) td = cmd := by
  have hcmd := cmd_eq_op_resv_td_m cmd
  rw [hop, hr] at hcmd
  rw [cryptWord, bits_subModeOfBits, bits_of_compOfBits htd]
  exact hcmd.symm

theorem encode_of_decode {t : Transfer} {i : Instr} (h : decode t = .legal i) :
    i.WellFormed = true ∧ encode i = t := by
  obtain ⟨hr, hi⟩ := selects_of_decode h
  have eq_t {cmd : BitVec 16} (hcmd : cmd = t.cmd) : Transfer.mk cmd t.opnd = t := by rw [hcmd]
  cases hi with
  | nop hop | clrkey hop | rdout hop | rdstat hop =>
    rw [hop] at hr
    have hcmd := cmd_eq_of_op hop hr
    exact ⟨rfl, eq_t hcmd⟩
  | ldkey hop hk =>
    rw [hop] at hr
    exact ⟨wellFormed_ldkey.mpr hk, eq_t (cmd_eq_of_op_one hop hr)⟩
  | crypt td hop htd =>
    rw [hop] at hr
    rw [encode_cryptOf]
    exact ⟨wellFormed_cryptOf .., eq_t (cmd_eq_of_op_three hop hr htd)⟩

/-- Settles O2: the fields and the reserved zeros make up the whole word. -/
theorem encodeDecodeRoundTrip : Obligations.EncodeDecodeRoundTrip := fun _ _ => encode_of_decode

/-! ### The 13 legal words (R84) -/

/-- The commands of the 13 legal words, in the order of `legalWords`, with an operand. -/
def legalCommands (x : Word) : List Instr :=
  [.nop x, .ldkey 0 x, .ldkey 1 x, .ldkey 2 x, .clrkey x, .cryptDSingle x, .cryptESingle x, .cryptDEee3 x,
    .cryptEEee3 x, .cryptDEde3 x, .cryptEEde3 x, .rdout x, .rdstat x]

theorem map_encode_legalCommands (x : Word) : (legalCommands x).map encode = legalWords.map (Transfer.mk · x) := rfl

theorem wellFormed_of_mem_legalCommands {x : Word} {i : Instr} (h : i ∈ legalCommands x) : i.WellFormed = true :=
  List.all_eq_true.mp (show (legalCommands x).all Instr.WellFormed = true from rfl) i h

/-- There is no other well-formed command. -/
theorem mem_legalCommands {i : Instr} (h : i.WellFormed = true) : i ∈ legalCommands (encode i).opnd := by
  cases i with
  | ldkey k key =>
    have hk : k ≠ 3 := wellFormed_ldkey.mp h
    have hk : k = 0 ∨ k = 1 ∨ k = 2 := by bv_omega
    rcases hk with rfl | rfl | rfl <;> simp [legalCommands, encode]
  | _ => simp [legalCommands, encode]

theorem map_decode_legalWords (x : Word) :
    legalWords.map (fun w => decode ⟨w, x⟩) = (legalCommands x).map .legal :=
  calc
    _ = (legalWords.map (Transfer.mk · x)).map decode := rfl
    _ = (legalCommands x).map fun i => decode (encode i) := by rw [← map_encode_legalCommands, List.map_map]; rfl
    _ = _ := List.map_congr_left fun _ hi => decode_encode (wellFormed_of_mem_legalCommands hi)

theorem encode_cmd_mem_legalWords {i : Instr} (h : i.WellFormed = true) : (encode i).cmd ∈ legalWords := by
  have hmem := List.mem_map_of_mem (f := encode) (mem_legalCommands h)
  rw [map_encode_legalCommands] at hmem
  obtain ⟨w, hw, hi⟩ := List.mem_map.mp hmem
  exact hi ▸ hw

theorem decode_illegal_of_notMem {t : Transfer} (h : t.cmd ∉ legalWords) : ∃ c, decode t = .illegal c := by
  cases hd : decode t with
  | illegal c => exact ⟨c, rfl⟩
  | legal i =>
    obtain ⟨hwf, rfl⟩ := encode_of_decode hd
    exact absurd (encode_cmd_mem_legalWords hwf) h

/-- An illegal transfer that the block accepts takes the fault entry (60_exceptions.md R227). -/
theorem step_of_takes_illegal {t : Transfer} {s : State} {c : FaultCause} (ht : Takes t s) (hb : s.busy = false)
    (hf : s.fault = false) (hd : decode t = .illegal c) : step s = .next (faulted c.code (taken s)) := by
  have ha : admission t { taken s with pend := some t } = .raise c := by
    simp [admission, held, refused, hb, hf, hd]
  rw [step_of_takes ht, commandStep, ha]
  rfl

/-- Settles O3: the legal words are the words of the well-formed commands, and only those decode. -/
theorem exactlyThirteenWordsAreLegal : Obligations.ExactlyThirteenWordsAreLegal := by
  refine ⟨by decide, rfl, map_decode_legalWords, fun t hw => ?_⟩
  obtain ⟨c, hd⟩ := decode_illegal_of_notMem hw
  exact ⟨c, hd, fun _ ht hb hf => step_of_takes_illegal ht hb hf hd⟩

/-! ### Operands without a use (R79) -/

/-- Settles O26: these four meanings do not take the operand. -/
theorem unusedOperandIsIgnored : Obligations.UnusedOperandIsIgnored := fun _ _ _ => ⟨rfl, rfl, rfl, rfl⟩

end Sys2Proof

/-! PROOFS. The permutation unit (40_bit_transform.md): which input bit an output bit copies, what follows for every table, and
the worked values of the function units. -/

namespace Sys2Proof.Machine

/-! ### The input bit behind each output bit (R101, R102) -/

section Source

variable {nIn nOut : Nat} (T : PermTable nIn nOut)

/-- The input storage bit that the table's entry for output bit `i` names (R101). -/
def PermTable.source (i : Nat) : Nat := nIn - T.entries.getD (nOut - 1 - i) 0

/-- An entry names one of the table bits 1 to `nIn`, so its source is a bit of the input (R102). -/
theorem PermTable.source_lt {i : Nat} (hi : i < nOut) : T.source i < nIn := by
  have hj : nOut - 1 - i < T.entries.length := by rw [T.length_eq]; omega
  obtain ⟨hpos, hle⟩ := T.in_range _ (List.getElem_mem hj)
  rw [PermTable.source, List.getD_eq_getElem _ _ hj]
  omega

theorem perm_getLsbD_source (src : BitVec nIn) {i : Nat} (hi : i < nOut) :
    (perm T src).getLsbD i = src.getLsbD (T.source i) := perm_getLsbD T src hi

/-! ### A table that copies bits respects every bitwise fact (R110) -/

theorem perm_xor (a b : BitVec nIn) : perm T (a ^^^ b) = perm T a ^^^ perm T b := by
  refine BitVec.eq_of_getLsbD_eq fun i hi => ?_
  simp only [BitVec.getLsbD_xor, perm_getLsbD_source T _ hi]

theorem perm_zero : perm T 0 = 0 := by
  refine BitVec.eq_of_getLsbD_eq fun i hi => ?_
  rw [perm_getLsbD_source T _ hi]
  exact BitVec.getLsbD_zero.trans BitVec.getLsbD_zero.symm

theorem perm_allOnes : perm T (BitVec.allOnes nIn) = BitVec.allOnes nOut := by
  refine BitVec.eq_of_getLsbD_eq fun i hi => ?_
  simp only [perm_getLsbD_source T _ hi, BitVec.getLsbD_allOnes, T.source_lt hi, hi]

end Source

/-- Settles O43: each turn of the loop appends the bit its entry names, so the last entry lands in bit 0. -/
theorem permReadsTableBits : Obligations.PermReadsTableBits := fun _ _ T src _ => perm_getLsbD T src

/-- Each entry of FP names the position at which IP has that entry's own table bit (R105). -/
theorem ip_entries_fp_entries (j : Fin 64) : ip.entries.getD (fp.entries.getD j.val 0 - 1) 0 = j.val + 1 := by
  revert j
  decide

/-- Settles O44: the tables are inverse entry by entry, so the permutations are inverse bit by bit. -/
theorem finalPermutationInvertsInitial : Obligations.FinalPermutationInvertsInitial :=
  ⟨fun x => ⟨perm_fp_perm_ip x, perm_ip_perm_fp x⟩, ip_entries_fp_entries⟩

/-- Settles O45: an output bit copies its source, and the three identities hold bit by bit at the sources. -/
theorem permCopiesBits : Obligations.PermCopiesBits := fun _ _ T =>
  ⟨fun i hi => ⟨T.source i, T.source_lt hi, fun x => perm_getLsbD_source T x hi⟩, perm_xor T, perm_zero T, perm_allOnes T⟩

/-! ### The worked values (R103, 41_sbox.md R120, 43_feistel_engine.md R160, R164) -/

/-- Settles O57: the kernel evaluates each unit at the spec's own input. -/
theorem workedExamplesOfTheSpec : Obligations.WorkedExamplesOfTheSpec := by
  refine ⟨?ip, ?s1, ?f_zero, ?f_round, ?encrypt, ?encrypt_zero⟩
  case s1 => rfl
  case ip | f_zero | f_round | encrypt | encrypt_zero => decide +kernel

end Sys2Proof.Machine

/-! PROOFS. The S-box array (41_sbox.md): what its 32 rows hold, and what that says of the 64 inputs of one table. -/

namespace Sys2Proof.Machine

/-- The sixteen columns of a table; also the sixteen values of an entry. -/
def sboxColumns : List (BitVec 4) := (List.range 16).map (BitVec.ofNat 4)

/-- The 64 inputs of a lookup. -/
def sboxInputs : List (BitVec 6) := (List.range 64).map (BitVec.ofNat 6)

/-- The input whose outer bits are a row and whose inner bits are a column, as R120 splits them. -/
def sboxInput (row : BitVec 2) (col : BitVec 4) : BitVec 6 :=
  BitVec.ofBool (row.getLsbD 1) ++ (col ++ BitVec.ofBool (row.getLsbD 0))

theorem sboxRow_sboxInput (row : BitVec 2) (col : BitVec 4) : sboxRow (sboxInput row col) = row := by
  revert row col
  decide

theorem sboxCol_sboxInput (row : BitVec 2) (col : BitVec 4) : sboxCol (sboxInput row col) = col := by
  revert row col
  decide

theorem SBoxTable.lookup_sboxInput (S : SBoxTable) (row : BitVec 2) (col : BitVec 4) :
    S.lookup (sboxInput row col) = S.at row col := by
  rw [SBoxTable.lookup, sboxRow_sboxInput, sboxCol_sboxInput]

/-- Rows and columns reach every input once. -/
theorem sboxInputs_perm_rows :
    sboxInputs.Perm ([0, 1, 2, 3].flatMap fun row => sboxColumns.map (sboxInput row)) := by
  decide

theorem count_sboxColumns (v : BitVec 4) : sboxColumns.count v = 1 := by
  revert v
  decide

/-- Each row of rules R122 to R129 is a rearrangement of the values 0 to 15. -/
theorem sboxTable_row_perm (i : Fin 8) (row : BitVec 2) :
    (sboxColumns.map ((sboxTable i).at row)).Perm sboxColumns := by
  revert i row
  decide +kernel

theorem count_sboxTable_row (i : Fin 8) (row : BitVec 2) (v : BitVec 4) :
    (sboxColumns.map ((sboxTable i).at row)).count v = 1 :=
  ((sboxTable_row_perm i row).count_eq v).trans (count_sboxColumns v)

/-- Any table whose rows take a value once takes it at four inputs, one in each row. -/
theorem SBoxTable.count_lookup {S : SBoxTable} {v : BitVec 4}
    (hrow : ∀ row, (sboxColumns.map (S.at row)).count v = 1) : (sboxInputs.map S.lookup).count v = 4 := by
  have hlookup (row : BitVec 2) : S.lookup ∘ sboxInput row = S.at row := funext (S.lookup_sboxInput row)
  rw [(sboxInputs_perm_rows.map S.lookup).count_eq]
  simp [hlookup, hrow]

/-- The statement counts a value by filtering the places of a list of places. -/
theorem length_filter_eq_count {w n : Nat} (f : BitVec w → BitVec 4) (v : BitVec 4) :
    ((List.range n).filter fun k => f (BitVec.ofNat w k) = v).length =
      (((List.range n).map (BitVec.ofNat w)).map f).count v := by
  rw [List.count, List.countP_map, List.countP_map, List.countP_eq_length_filter]
  rfl

/-- Settles O46: each row rearranges the sixteen values, and an input is a row with a column. -/
theorem sBoxRowsAreBijections : Obligations.SBoxRowsAreBijections :=
  ⟨fun i row v => (length_filter_eq_count _ v).trans (count_sboxTable_row i row v),
   fun i v => (length_filter_eq_count _ v).trans (SBoxTable.count_lookup (count_sboxTable_row i · v))⟩

end Sys2Proof.Machine

/-! PROOFS. The key schedule (42_key_schedule.md): the encrypt schedule comes back to its start, the decrypt schedule runs it
backwards, and neither sees a parity bit. -/

namespace Sys2Proof.Machine

/-! ### The encrypt schedule's rotations (R147) -/

/-- The rule's column of cumulative left rotations, the total after round `r` modulo the width. -/
theorem keyRotation_enc_succ (r : Fin 16) :
    keyRotation .enc (r + 1) =
      [1, 2, 4, 6, 8, 10, 12, 14, 15, 17, 19, 21, 23, 25, 27, 28].getD r.val 0 % 28 := by
  revert r
  decide

theorem rotatedKeys_zero (k : KeyHalves) : rotatedKeys k 0 = k := by
  simp only [rotatedKeys, rotl28_zero]

theorem keyTrace_enc_sixteen (key : Word) : keyTrace .enc key 16 = ksInit key := by
  have htotal : keyRotation .enc 16 = 0 := keyRotation_enc_succ 15
  rw [keyTrace_eq_rotatedKeys, htotal, rotatedKeys_zero]

/-- Settles O48: the halves are the start's rotated by the total so far, and sixteen rounds total the width. -/
theorem encryptScheduleReturnsToStart : Obligations.EncryptScheduleReturnsToStart := fun key => by
  refine ⟨keyTrace_enc_sixteen key, fun r => ?_⟩
  rw [keyTrace_eq_rotatedKeys, keyRotation_enc_succ]
  rfl

/-! ### The decrypt schedule (R148) -/

/-- Settles O49: the halves themselves are equal, since the two schedules' rotations so far agree modulo the width. -/
theorem decryptKeysRunInReverse : Obligations.DecryptKeysRunInReverse := fun key r => by
  have hrounds : 16 - r.val = 15 - r.val + 1 := by omega
  have hkeys : keyTrace .dec key (r + 1) = keyTrace .enc key (16 - r) := keyTrace_flip .enc key r.isLt
  rw [hkeys, hrounds]

/-! ### Parity bits (R149) -/

/-- A permutation sees only the bits that its table names. -/
theorem perm_congr_source {nIn nOut : Nat} (T : PermTable nIn nOut) {a b : BitVec nIn}
    (h : ∀ i, i < nOut → a.getLsbD (T.source i) = b.getLsbD (T.source i)) : perm T a = perm T b := by
  refine BitVec.eq_of_getLsbD_eq fun i hi => ?_
  rw [perm_getLsbD_source T a hi, perm_getLsbD_source T b hi, h i hi]

/-- PC1 names no parity bit. -/
theorem pc1_source_mod_eight_ne_zero (i : Fin 56) : pc1.source i % 8 ≠ 0 := by
  revert i
  decide

section ParityBits

variable {k₁ k₂ : Word}

/-- Keys that differ in parity bits alone start the schedule alike. -/
theorem ksInit_congr (h : ∀ i, i < 64 → i % 8 ≠ 0 → k₁.getLsbD i = k₂.getLsbD i) : ksInit k₁ = ksInit k₂ := by
  have hperm : perm pc1 k₁ = perm pc1 k₂ :=
    perm_congr_source pc1 fun i hi => h _ (pc1.source_lt hi) (pc1_source_mod_eight_ne_zero ⟨i, hi⟩)
  simp only [ksInit, hperm]

/-- The whole schedule follows from its start. -/
theorem keyTrace_congr (h : ksInit k₁ = ksInit k₂) (m : SubMode) (n : Nat) : keyTrace m k₁ n = keyTrace m k₂ n := by
  rw [keyTrace_eq_rotatedKeys, keyTrace_eq_rotatedKeys, h]

/-- A transform takes its key through `ks_init` alone (R164). -/
theorem transform_congr (h : ksInit k₁ = ksInit k₂) (block : Word) (m : SubMode) :
    transform block k₁ m = transform block k₂ m := by
  have hstart : stageStart block k₁ = stageStart block k₂ := by simp only [stageStart, h]
  rw [transform, transform, hstart]

end ParityBits

/-- Settles O50: the start of the schedule misses the parity bits, and the key is used nowhere else. -/
theorem parityBitsHaveNoEffect : Obligations.ParityBitsHaveNoEffect := fun _ _ h =>
  ⟨keyTrace_congr (ksInit_congr h), transform_congr (ksInit_congr h)⟩

end Sys2Proof.Machine

/-! PROOFS. The Feistel engine (43_feistel_engine.md): where the S-layer puts its nibbles, the two round trips of a transform
and the mirror of its halves, and a key under which encrypting twice is no identity. -/

namespace Sys2Proof.Machine

/-! ### The S-layer's nibbles (R161) -/

/-- A word made of the nibbles `f 0`, `f 1`, ..., counted from the most significant end. -/
structure NibblesAre {w n : Nat} (v : BitVec w) (f : Fin n → BitVec 4) : Prop where
  width : w = 4 * n
  nibble : ∀ i : Fin n, v.extractLsb' (w - 4 - 4 * i) 4 = f i

theorem NibblesAre.single {a : BitVec 4} {f : Fin 1 → BitVec 4} (ha : a = f 0) : NibblesAre a f where
  width := rfl
  nibble i := by
    rw [Fin.fin_one_eq_zero i, ← ha]
    exact BitVec.extractLsb'_eq_self

/-- A nibble put above the word comes first, and the others keep their order. -/
theorem NibblesAre.append {w n : Nat} {t : BitVec w} {a : BitVec 4} {f : Fin (n + 1) → BitVec 4} (ha : a = f 0)
    (h : NibblesAre t fun i => f i.succ) : NibblesAre (a ++ t) f where
  width := by rw [h.width]; omega
  nibble i := by
    have hw := h.width
    cases i using Fin.cases with
    | zero =>
      have htop : 4 + w - 4 - 4 * (0 : Fin (n + 1)).val = w := by simp
      rw [htop, BitVec.extractLsb'_append_eq_left, ha]
    | succ i =>
      have hplace : 4 + w - 4 - 4 * i.succ.val = w - 4 - 4 * i := by rw [Fin.val_succ]; omega
      rw [hplace, BitVec.extractLsb'_append_eq_of_add_le (by omega), h.nibble]

theorem slayer_nibbles (x : BitVec 48) : NibblesAre (slayer x) fun i => sbox i (chunk x i) :=
  .append rfl <| .append rfl <| .append rfl <| .append rfl <| .append rfl <| .append rfl <| .append rfl <| .single rfl

/-- Settles O47: the S-layer joins the eight S-boxes' nibbles in index order, and chunk `i` is the group the rule names. -/
theorem sLayerPlacesNibbles : Obligations.SLayerPlacesNibbles := fun x => (slayer_nibbles x).nibble

/-! ### Round trips and the mirror of the halves (R166 to R168) -/

/-- Settles O51: the sub-modes are each other's opposite, and a transform undoes that of the opposite sub-mode. -/
theorem transformRoundTrips : Obligations.TransformRoundTrips := fun b key =>
  ⟨transform_flip_transform b key .enc, transform_flip_transform b key .dec⟩

/-- Settles O53: decrypt round `r` is the opposite transform's round number `r + 1`, that many rounds before the result. -/
theorem decryptMirrorsEncrypt : Obligations.DecryptMirrorsEncrypt := fun b key r => by
  have hrounds : 15 - r.val = 16 - (r.val + 1) := by omega
  rw [hrounds]
  exact stageTrace_flip_halves .enc b key r.isLt

/-! ### A key with equal round keys (R168) -/

/-- Zero halves stay zero under every rotation. -/
theorem rotatedKeys_of_zero (a : Nat) : rotatedKeys ⟨0, 0⟩ a = ⟨0, 0⟩ := by
  simp [rotatedKeys, rotl28]

/-- A key that starts the schedule at zero halves has the same halves, and so the same round key, in every round. -/
theorem keyTrace_of_ksInit_zero {key : Word} (h : ksInit key = ⟨0, 0⟩) (m : SubMode) (n : Nat) :
    keyTrace m key n = ⟨0, 0⟩ := by
  rw [keyTrace_eq_rotatedKeys, h, rotatedKeys_of_zero]

/-- Settles O52: the key has parity bits alone, so its halves start at zero; the kernel evaluates the two transforms. -/
theorem encryptTwiceIsNotIdentity : Obligations.EncryptTwiceIsNotIdentity := by
  have hstart : ksInit 0x0101010101010101 = ⟨0, 0⟩ := by decide +kernel
  refine ⟨fun r => ?_, ?_⟩
  · rw [keyTrace_of_ksInit_zero hstart, keyTrace_of_ksInit_zero hstart]
  · decide +kernel

end Sys2Proof.Machine

/-! PROOFS. The triple sequencer (44_triple_sequencer.md): operation start and the plan it writes, the ticks that end a stage,
an operation in progress step by step until its last tick writes `run`, and the two properties of `run` itself. -/

namespace Sys2Proof.Machine

open Claims

/-! ### Operation start (R181 to R183, R185) -/

section Start

variable {m : SubMode} {td : Comp} {s : State}

/-- A CRYPT whose keys are loaded starts its operation. -/
theorem exec_cryptOf_of_keysLoaded (m : SubMode) (b : Word) (hk : keysLoaded td s = true) :
    exec (cryptOf m td b) s = .next (respond .ok 0 (startOperation m td b s)) := by
  rw [exec_cryptOf, cryptCommand, if_pos hk]

/-- The first entry of a written plan is the plan's first stage. -/
theorem writePlan_cons_get_zero (old : Triple Stage) (st : Stage) (rest : List Stage) :
    (writePlan old (st :: rest)).get 0 = st := by
  match rest with
  | [] | [_] | _ :: _ :: _ => rfl

/-- Operation start, written out for a plan given as a list: its first stage's key goes into `C` and `D`. -/
theorem exec_cryptOf_eq_started (b : Word) (hk : keysLoaded td s = true) {st : Stage} {rest : List Stage}
    (hplan : planOf s.ede3Polarity m td = st :: rest) :
    exec (cryptOf m td b) s =
      .next (started (writePlan s.plan (st :: rest)) (planLength (st :: rest)) (s.key.get st.k) b s) := by
  have hstart : startOperation m td b s = flagStarted (writeDatapath (stageStart b (s.key.get st.k)) .initialized
      { s with
        plan := writePlan s.plan (st :: rest), nst := planLength (st :: rest), stg := 0, rnd := 0 }) := by
    simp only [startOperation, stageInit, currentStage, hplan, writePlan_cons_get_zero]
  rw [exec_cryptOf_of_keysLoaded m b hk, hstart]
  rfl

/-- All three valid flags satisfy every composition's key check. -/
theorem keysLoaded_of_kvalid_eq (td : Comp) (h : s.kvalid = 0b111) : keysLoaded td s = true := by
  simp [keysLoaded_iff, h]

end Start

/-- Settles O20: each sub-mode's plan has the one stage with key register 0. -/
theorem cryptSingleStartsOneStage : Obligations.CryptSingleStartsOneStage := by
  intro b s h0
  have hk : keysLoaded .single s = true := (keysLoaded_iff .single s).mpr ⟨h0, fun h => absurd rfl h⟩
  have henc : planOf s.ede3Polarity .enc .single = [⟨0, .enc⟩] := rfl
  have hdec : planOf s.ede3Polarity .dec .single = [⟨0, .dec⟩] := rfl
  exact ⟨(exec_cryptOf_eq_started b hk henc :), (exec_cryptOf_eq_started b hk hdec :)⟩

/-- Settles O21: the plans of EEE3 are the same under both polarities. -/
theorem cryptEee3StartsThreeStages : Obligations.CryptEee3StartsThreeStages := by
  intro b s hv
  have hk := keysLoaded_of_kvalid_eq .eee3 hv
  have henc : planOf s.ede3Polarity .enc .eee3 = [⟨0, .enc⟩, ⟨1, .enc⟩, ⟨2, .enc⟩] := rfl
  have hdec : planOf s.ede3Polarity .dec .eee3 = [⟨2, .dec⟩, ⟨1, .dec⟩, ⟨0, .dec⟩] := rfl
  exact ⟨(exec_cryptOf_eq_started b hk henc :), (exec_cryptOf_eq_started b hk hdec :)⟩

/-- Settles O22: the polarity selects the plan's row. -/
theorem cryptEde3StartsThreeStages : Obligations.CryptEde3StartsThreeStages := by
  intro b s hv
  have hk := keysLoaded_of_kvalid_eq .ede3 hv
  constructor <;> intro hp
  case left =>
    have henc : planOf s.ede3Polarity .enc .ede3 = [⟨0, .enc⟩, ⟨1, .dec⟩, ⟨2, .enc⟩] := by rw [hp]; rfl
    have hdec : planOf s.ede3Polarity .dec .ede3 = [⟨2, .dec⟩, ⟨1, .enc⟩, ⟨0, .dec⟩] := by rw [hp]; rfl
    exact ⟨(exec_cryptOf_eq_started b hk henc :), (exec_cryptOf_eq_started b hk hdec :)⟩
  case right =>
    have henc : planOf s.ede3Polarity .enc .ede3 = [⟨0, .dec⟩, ⟨1, .enc⟩, ⟨2, .dec⟩] := by rw [hp]; rfl
    have hdec : planOf s.ede3Polarity .dec .ede3 = [⟨2, .enc⟩, ⟨1, .dec⟩, ⟨0, .enc⟩] := by rw [hp]; rfl
    exact ⟨(exec_cryptOf_eq_started b hk henc :), (exec_cryptOf_eq_started b hk hdec :)⟩

/-! ### The ticks of round 15 (R186 to R188) -/

@[simp] theorem tick_schedule (s : State) : (tick s).schedule = s.schedule := by rw [tick_frame]
@[simp] theorem tick_ede3Polarity (s : State) : (tick s).ede3Polarity = s.ede3Polarity := by rw [tick_frame]

section LastRound

variable {s : State}

/-- The engine's step while an operation runs is a tick. -/
theorem step_eq_tick (ha : nextAgent s = .engine) (hb : s.busy = true) : step s = .next (tick (popSchedule s)) := by
  rw [step, ha, move, engineMove, popSchedule_busy, if_pos hb]

/-- A tick's round, written out for each sub-mode (42_key_schedule.md R143, R144, 43_feistel_engine.md R162, R163). -/
theorem tickRound_eq_ticked (s : State) : tickRound s = ticked s := by
  unfold tickRound currentStage ticked
  cases (s.plan.get s.stg).m <;> rfl

/-- Round 15 with a stage to come. -/
theorem tick_of_next_stage (hr : s.rnd = 15) (hn : s.stg.val + 1 < s.nst.val) :
    tick s = stageInit (stageOutput (tickRound s).datapath) { tickRound s with stg := s.stg + 1, rnd := 0 } := by
  rcases tick_cases s with ⟨hr', -⟩ | ⟨-, -, e⟩ | ⟨-, hn', -⟩
  · simp [hr] at hr'
  · exact e
  · omega

/-- Round 15 of the last stage. -/
theorem tick_of_last_stage (hr : s.rnd = 15) (hn : s.nst.val ≤ s.stg.val + 1) :
    tick s = complete (stageOutput (tickRound s).datapath) (tickRound s) := by
  rcases tick_cases s with ⟨hr', -⟩ | ⟨-, hn', -⟩ | ⟨-, -, e⟩
  · simp [hr] at hr'
  · omega
  · exact e

end LastRound

/-- Settles O28: the stage's output enters the next stage, whose key its plan entry names. -/
theorem lastRoundStartsTheNextStage : Obligations.LastRoundStartsTheNextStage := by
  intro s ha hb hr hn
  rw [← tickRound_eq_ticked, step_eq_tick ha hb, tick_of_next_stage (s := popSchedule s) hr hn]
  rfl

/-- Settles O29: the stage's output is the result. -/
theorem lastStageCompletes : Obligations.LastStageCompletes := by
  intro s ha hb hr hn
  rw [← tickRound_eq_ticked, step_eq_tick ha hb, tick_of_last_stage (s := popSchedule s) hr hn]
  rfl

/-! ### An operation in progress (R184 to R190) -/

/-! #### The plan's stages -/

theorem length_planEntries (s : State) : (planEntries s).length = s.nst.val := by
  have := s.nst.isLt
  simp only [planEntries, List.length_take, List.length_cons, List.length_nil]
  omega

theorem length_planOf (p : Polarity) (m : SubMode) (td : Comp) :
    (planOf p m td).length = if td = .single then 1 else 3 := by
  cases m <;> cases td <;> cases p <;> rfl

/-- The stage after those before `STG` is the current one. -/
theorem take_succ_planEntries {s : State} (h : s.stg.val < s.nst.val) :
    (planEntries s).take (s.stg.val + 1) = (planEntries s).take s.stg.val ++ [currentStage s] := by
  have hget (i : Fin 3) : [s.plan.e0, s.plan.e1, s.plan.e2][i.val]? = some (s.plan.get i) := by
    fin_cases i <;> rfl
  have hcur : (planEntries s)[s.stg.val]? = some (currentStage s) := by
    rw [planEntries, List.getElem?_take_of_lt h, hget, currentStage]
  rw [List.take_add_one, hcur, Option.toList_some]

/-! #### From operation start to the result -/

section Running

variable {m : SubMode} {td : Comp} {b : Word} {s : State}

/-- An operation in progress is the block's: `PEND`, the host's lists and the schedule are free. -/
theorem Running.hostSide (h : Running m td b s) (pend : Option Transfer) (program : List Transfer)
    (responses : List Response) (schedule : List Agent) :
    Running m td b { s with pend := pend, program := program, responses := responses, schedule := schedule } :=
  ⟨h.busy, h.no_fault, h.plan, h.stage_lt, h.datapath⟩

theorem Running.popSchedule (h : Running m td b s) : Running m td b (popSchedule s) := h.hostSide _ _ _ _

/-- Operation start is the pure loop's start (R185). -/
theorem running_startOperation (m : SubMode) (td : Comp) (b : Word) (hf : s.fault = false) :
    Running m td b (startOperation m td b s) where
  busy := rfl
  no_fault := hf
  plan := planEntries_startOperation m td b s
  stage_lt := planLength_planOf_pos m td s.ede3Polarity
  datapath := rfl

/-- `NST` is the number of the composition's stages. -/
theorem Running.nst_eq (h : Running m td b s) : s.nst.val = if td = .single then 1 else 3 := by
  rw [← length_planEntries, h.plan, length_planOf]

theorem Running.ticksLeft_pos (h : Running m td b s) : 0 < ticksLeft s := by
  have := h.stage_lt
  unfold ticksLeft
  omega

/-- The round of a tick is the next round of the pure loop. -/
theorem Running.tickRound_datapath (h : Running m td b s) :
    (tickRound s).datapath =
      stageTrace (currentStage s).m
        (stageStart (runStages s.key ((planEntries s).take s.stg.val) b) (s.key.get (currentStage s).k))
        (s.rnd.val + 1) := by
  rw [tickRound, writeDatapath_datapath, h.datapath, stageTrace, Fin.ofNat_val_eq_self]

/-- After round 15 the stage's output is the block after the stages up to this one. -/
theorem Running.stageOutput_tickRound (h : Running m td b s) (hr : s.rnd.val = 15) :
    stageOutput (tickRound s).datapath = runStages s.key ((planEntries s).take (s.stg.val + 1)) b := by
  rw [h.tickRound_datapath, hr, take_succ_planEntries h.stage_lt, runStages_append]
  rfl

/-- A tick keeps the operation in progress, one tick nearer its end. -/
structure TickKeeps (m : SubMode) (td : Comp) (b : Word) (s t : State) : Prop where
  running : Running m td b t
  dout : t.dout = s.dout
  done : t.done = s.done
  ticks : ticksLeft s = ticksLeft t + 1

/-- A tick is the operation's last and writes its result. -/
structure TickEnds (m : SubMode) (td : Comp) (b : Word) (s t : State) : Prop where
  last : ticksLeft s = 1
  idle : t.busy = false
  done : t.done = true
  result : t.dout = run s.ede3Polarity s.key b m td

/-- What a tick does to an operation in progress (R186 to R190): the next round, the next stage, or the result. -/
theorem Running.tick_keeps_or_ends (h : Running m td b s) :
    TickKeeps m td b s (tick s) ∨ TickEnds m td b s (tick s) := by
  have hlt := h.stage_lt
  have hnst := s.nst.isLt
  rcases tick_cases s with ⟨hr, e⟩ | ⟨hr, hn, e⟩ | ⟨hr, hn, e⟩ <;> rw [e]
  case inl =>
    have hrnd : (s.rnd + 1).val = s.rnd.val + 1 := by omega
    refine .inl ⟨⟨h.busy, h.no_fault, h.plan, hlt, ?_⟩, rfl, rfl, ?_⟩
    · exact h.tickRound_datapath.trans (by rw [← hrnd]; rfl)
    · change ticksLeft s = 16 * (s.nst.val - s.stg.val) - (s.rnd + 1).val + 1
      rw [ticksLeft, hrnd]
      omega
  case inr.inl =>
    have hstg : (s.stg + 1).val = s.stg.val + 1 := by omega
    refine .inl ⟨⟨h.busy, h.no_fault, h.plan, hstg.trans_lt hn, ?_⟩, rfl, rfl, ?_⟩
    · rw [h.stageOutput_tickRound hr, ← hstg]
      rfl
    · change ticksLeft s = 16 * (s.nst.val - (s.stg + 1).val) + 1
      rw [ticksLeft, hstg, hr]
      omega
  case inr.inr =>
    refine .inr ⟨?_, rfl, rfl, ?_⟩
    · unfold ticksLeft
      omega
    · have hall : (planEntries s).take (s.stg.val + 1) = planEntries s :=
        List.take_of_length_le ((length_planEntries s).trans_le hn)
      rw [complete_dout, h.stageOutput_tickRound hr, hall, h.plan, run]

/-- While an operation runs, a step but reset is the engine's tick, or moves only `PEND`, the host's lists and the schedule:
no other command than NOP and RDSTAT is performed (45_commands.md R200). -/
theorem StepCase.ticks_or_hostSide {t : State} (hc : StepCase s t) (hb : s.busy = true) (hf : s.fault = false)
    (hr : nextAgent s ≠ .reset) :
    (nextAgent s = .engine ∧ t = Machine.tick (Machine.popSchedule s)) ∨
    (nextAgent s ≠ .engine ∧ ∃ pend program responses schedule,
      t = { s with pend := pend, program := program, responses := responses, schedule := schedule }) := by
  have hne {tr : Transfer} (ht : Takes tr s) : nextAgent s ≠ .engine := by
    rcases ht with ⟨ha, -⟩ | ⟨ha, -⟩ <;> simp [ha]
  cases hc with
  | tick ha => exact .inl ⟨ha, rfl⟩
  | reset ha => exact absurd ha hr
  | noIssue ha | noCommand ha => exact .inr ⟨by simp [ha], _, _, _, _, rfl⟩
  | hold _ ht | nop _ _ ht | rdstat _ _ ht => exact .inr ⟨hne ht, _, _, _, _, rfl⟩
  | refuse _ _ _ hf' => simp [hf] at hf'
  | noTick _ hb' => simp [hb] at hb'
  | raise _ _ _ hb' | rdout _ _ _ hb' | clrkey _ _ _ hb' => simp [hb] at hb'
  | ldkey _ _ _ _ _ hb' | start _ _ _ _ _ hb' | reject _ _ _ _ _ hb' => simp [hb] at hb'

/-- A run goes on from the state its first step answers. -/
theorem coreRun_succ {M : Host.Core} {s t : M.State} (hs : M.step s = .next t) (n : Nat) :
    M.run (n + 1) s = M.run n t := by
  rw [Host.Core.run, hs]

/-- The engine alone, for as many ticks as are left or fewer (R189). -/
theorem Running.run_ticks {n : Nat} {rest : List Agent} (h : Running m td b s)
    (hs : s.schedule = List.replicate n .engine ++ rest) (hn : n ≤ ticksLeft s) :
    ∃ t, core.run n s = .next t ∧ (n < ticksLeft s → t.busy = true ∧ t.dout = s.dout) ∧
      (n = ticksLeft s → t.busy = false ∧ t.done = true ∧ t.dout = run s.ede3Polarity s.key b m td) := by
  induction n generalizing s with
  | zero => exact ⟨s, rfl, fun _ => ⟨h.busy, rfl⟩, fun h0 => absurd h0 h.ticksLeft_pos.ne⟩
  | succ n ih =>
    have ha : nextAgent s = .engine := by rw [nextAgent, hs]; rfl
    rw [coreRun_succ (M := core) (step_eq_tick ha h.busy)]
    rcases h.popSchedule.tick_keeps_or_ends with hk | he
    · have hticks : ticksLeft s = ticksLeft (Machine.tick (Machine.popSchedule s)) + 1 := hk.ticks
      obtain ⟨t, hrun, hbusy, hend⟩ := ih hk.running (by rw [tick_schedule, popSchedule_schedule, hs]; rfl) (by omega)
      rw [tick_ede3Polarity, tick_key] at hend
      refine ⟨t, hrun, fun hlt => ?_, fun hall => hend (by omega)⟩
      obtain ⟨hb, hdout⟩ := hbusy (by omega)
      exact ⟨hb, hdout.trans hk.dout⟩
    · have hlast : ticksLeft s = 1 := he.last
      obtain rfl : n = 0 := by omega
      exact ⟨_, rfl, fun hlt => absurd hlt (by omega), fun _ => ⟨he.idle, he.done, he.result⟩⟩

end Running

/-- Settles O38: operation start has done no round of stage 0. -/
theorem acceptedCryptIsRunning : Obligations.AcceptedCryptIsRunning := by
  intro m td b s hf hk
  have h : Running m td b (respond .ok 0 (startOperation m td b s)) :=
    (running_startOperation m td b hf).hostSide _ _ _ _
  refine ⟨_, exec_cryptOf_of_keysLoaded m b hk, h, rfl, ?_⟩
  have hnst := h.nst_eq
  change 16 * _ = _
  rw [hnst]
  split <;> rfl

/-- Settles O40: at the start of stage 0 all of the operation's ticks are left. -/
theorem operationTakesSixteenTicksPerStage : Obligations.OperationTakesSixteenTicksPerStage := by
  intro m td b s n rest h hstg hrnd hs hn
  have hticks : ticksLeft s = 16 * s.nst.val := by rw [ticksLeft, hstg, hrnd]; rfl
  rw [← hticks] at hn ⊢
  exact ⟨h.nst_eq, h.run_ticks hs hn⟩

/-- Settles O39: a step is the engine's tick, or leaves the block as it is. -/
theorem runningOperationStepsTowardsRun : Obligations.RunningOperationStepsTowardsRun := by
  intro m td b s t h hs hr
  rcases (stepCase hs).ticks_or_hostSide h.busy h.no_fault hr with ⟨ha, rfl⟩ | ⟨ha, _, _, _, _, rfl⟩
  · have hkey : (tick (popSchedule s)).key = s.key := tick_key _
    rcases h.popSchedule.tick_keeps_or_ends with hk | he
    · have hticks : ticksLeft s = ticksLeft (tick (popSchedule s)) + 1 := hk.ticks
      exact .inl ⟨hk.running, hkey, tick_kvalid _, hk.dout, hk.done, tick_keyerr _, by rw [if_pos ha, hticks]⟩
    · exact .inr ⟨ha, he.last, he.idle, he.done, hkey, he.result⟩
  · exact .inl ⟨h.hostSide _ _ _ _, rfl, rfl, rfl, rfl, rfl, by rw [if_neg ha]; rfl⟩

/-! ### Properties of `run` (R191, R192) -/

/-- Settles O54: the decrypt plan is the flipped encrypt plan backwards, so the stages telescope. -/
theorem tripleRoundTrip : Obligations.TripleRoundTrip := fun p td =>
  ⟨planOf_flip p .enc td, fun keys b => run_flip_run p keys b .enc td⟩

/-- Where EEE3 under one key gives the single result, encrypting twice gives the block back. -/
theorem transform_twice_of_eee3_eq_single {k b : Word} (h : run .ede ⟨k, k, k⟩ b .enc .eee3 = transform b k .enc) :
    transform (transform b k .enc) k .enc = b := by
  have h' : transform (transform (transform b k .enc) k .enc) k .enc = transform b k .enc := h
  calc transform (transform b k .enc) k .enc
      = transform (transform (transform (transform b k .enc) k .enc) k .enc) k .dec :=
        (transform_flip_transform _ k .enc).symm
    _ = transform (transform b k .enc) k .dec := by rw [h']
    _ = b := transform_flip_transform b k .enc

/-- Settles O55: under one key the middle stage of EDE3 undoes the first. EEE3 is not the single result where encrypting twice is
no identity. -/
theorem equalKeysReduceEde3 : Obligations.EqualKeysReduceEde3 := by
  refine ⟨fun k b => ⟨rfl, rfl, ?_, ?_⟩, 0x0101010101010101, 0x0123456789ABCDEF, fun h => ?_⟩
  · exact congrArg (transform · k .enc) (transform_flip_transform b k .enc)
  · exact congrArg (transform · k .dec) (transform_flip_transform b k .dec)
  · obtain ⟨-, htwice⟩ := encryptTwiceIsNotIdentity
    exact absurd (htwice.symm.trans (transform_twice_of_eee3_eq_single h)) (by decide)

end Sys2Proof.Machine

/-! PROOFS. The commands other than CRYPT (45_commands.md R201 to R203, R205): each answers on the state its own operation gives,
and that operation writes nothing but what its rule names. -/

namespace Sys2Proof.Machine

/-- Settles O16: NOP is its answer alone. -/
theorem nopOnlyAnswers : Obligations.NopOnlyAnswers := fun _ _ => rfl

/-- LDKEY answers `OK` after the writes to the key register its index selects. -/
theorem exec_ldkey_of_keyIndex {k : BitVec 2} {i : Fin 3} (hk : keyIndex k = some i) (key : Word) (s : State) :
    exec (.ldkey k key) s = .next (respond .ok 0 (writeKey i key s)) := by
  simp only [exec, execLdkey, hk]

/-- Settles O17: each index selects the register of its own number, at which `writeKey` is the rule's two writes. -/
theorem ldkeyLoadsOneKeyRegister : Obligations.LdkeyLoadsOneKeyRegister := by
  intro key s
  have h0 : keyIndex 0 = some 0 := rfl
  have h1 : keyIndex 1 = some 1 := rfl
  have h2 : keyIndex 2 = some 2 := rfl
  exact ⟨exec_ldkey_of_keyIndex h0 key s, exec_ldkey_of_keyIndex h1 key s, exec_ldkey_of_keyIndex h2 key s⟩

/-- Settles O19: CLRKEY is the answer after `clearKeys`. -/
theorem clrkeyClearsAllKeys : Obligations.ClrkeyClearsAllKeys := fun _ _ => rfl

/-- Settles O24: RDOUT is the answer with `DOUT`, on the state as it is. -/
theorem rdoutAnswersDout : Obligations.RdoutAnswersDout := fun _ _ => rfl

end Sys2Proof.Machine

/-! PROOFS. Faults and rejections (60_exceptions.md): the cause of each illegal word, what the fault state does with a command
word and with a step, and the rejection of a CRYPT for a missing key. -/

namespace Sys2Proof

/-! ### The causes, in the priority of R237 (R222 to R225) -/

section Causes

variable {t : Transfer}

theorem decode_undefined_op (hop : 6 ≤ opOf t.cmd) : decode t = .illegal .illegalOp := if_pos hop

theorem decode_ldkey_three (hop : opOf t.cmd = 1) (hk : kOf t.cmd = 3) : decode t = .illegal .badKeyIndex := by
  simp [decode, hop, hk]

theorem decode_crypt_td_three (hop : opOf t.cmd = 3) (htd : tdOf t.cmd = 3) : decode t = .illegal .badTdMode := by
  simp [decode, hop, htd]

/-- A reserved bit is the last cause: the opcode is defined and no field has a reserved value. -/
theorem decode_reserved_bit (hop : opOf t.cmd < 6) (hk : ¬(opOf t.cmd = 1 ∧ kOf t.cmd = 3))
    (htd : ¬(opOf t.cmd = 3 ∧ tdOf t.cmd = 3)) (hr : t.cmd &&& resv (opOf t.cmd) ≠ 0) :
    decode t = .illegal .reservedField := by
  have h6 : ¬6 ≤ opOf t.cmd := BitVec.not_le.mpr hop
  simp only [decode, if_neg h6, if_neg hk, if_neg htd, if_pos hr]

/-- The reserved bits of each opcode, written out as R225 lists them. -/
theorem defined_op_and_resv_ne_zero {cmd : BitVec 16}
    (h : (opOf cmd = 0 ∨ opOf cmd = 2 ∨ opOf cmd = 4 ∨ opOf cmd = 5) ∧ cmd &&& 0x0FFF ≠ 0 ∨
      opOf cmd = 1 ∧ cmd &&& 0x0FFC ≠ 0 ∨ opOf cmd = 3 ∧ cmd &&& 0x0FF8 ≠ 0) :
    opOf cmd < 6 ∧ cmd &&& resv (opOf cmd) ≠ 0 := by
  rcases h with ⟨hop | hop | hop | hop, hr⟩ | ⟨hop, hr⟩ | ⟨hop, hr⟩ <;> rw [hop] <;> exact ⟨by decide, hr⟩

end Causes

/-- Settles O4: the decoder names the cause, and the step that takes the word is the fault entry with it. -/
theorem illegalWordsRaiseTheirCause : Obligations.IllegalWordsRaiseTheirCause := by
  intro s t ht hb hf
  have raises {c : FaultCause} (hd : decode t = .illegal c) := step_of_takes_illegal ht hb hf hd
  refine ⟨fun hop => raises (decode_undefined_op hop), fun ⟨hop, hk⟩ => raises (decode_ldkey_three hop hk),
    fun ⟨hop, htd⟩ => raises (decode_crypt_td_three hop htd), fun hk htd hr => ?_⟩
  obtain ⟨hop, hr⟩ := defined_op_and_resv_ne_zero hr
  exact raises (decode_reserved_bit hop hk htd hr)

namespace Machine

/-! ### The fault state (R228, R229) -/

section FaultState

variable {s t : State} {tr : Transfer}

/-- A word that is not held and is refused has that fate (R237). -/
theorem admission_of_refused (hh : held tr.cmd s = false) (hr : refused tr.cmd s = true) :
    admission tr s = .refuse := by
  simp [admission, hh, hr]

/-- A command is performed when its word is neither held nor refused (R200). -/
theorem admission_of_legal {i : Instr} (hh : held tr.cmd s = false) (hr : refused tr.cmd s = false)
    (hd : decode tr = .legal i) : admission tr s = .perform i := by
  simp [admission, hh, hr, hd]

/-- An idle block in the fault state refuses every word but `0x5000`. -/
theorem step_of_takes_refused (ht : Takes tr s) (hb : s.busy = false) (hf : s.fault = true) (hc : tr.cmd ≠ 0x5000) :
    step s = .next (refuse (taken s)) := by
  have ha : admission tr { taken s with pend := some tr } = .refuse :=
    admission_of_refused (by simp [held, hb]) (by simpa [refused, hf] using hc)
  rw [step_of_takes ht, commandStep, ha]
  rfl

/-- RDSTAT's word is neither held nor refused in any state, and answers `STATUS`. -/
theorem step_of_takes_rdstat (ht : Takes tr s) (hc : tr.cmd = 0x5000) :
    step s = .next (respond .ok (zext64 (statusWord s)) (taken s)) := by
  obtain ⟨cmd, opnd⟩ := tr
  subst hc
  have ha : admission ⟨0x5000, opnd⟩ { taken s with pend := some ⟨0x5000, opnd⟩ } = .perform (.rdstat opnd) :=
    admission_of_legal (by simp [held]) (by simp [refused]) (decode_rdstat_word opnd)
  rw [step_of_takes ht, commandStep, ha]
  rfl

/-- In an idle fault state every step but reset leaves the block as it is, `PEND` aside: there is no tick, and a command
taken is refused or is RDSTAT. -/
theorem StepCase.hostSide_of_fault (hc : StepCase s t) (hb : s.busy = false) (hf : s.fault = true)
    (hr : nextAgent s ≠ .reset) :
    t = { s with pend := t.pend, program := t.program, responses := t.responses, schedule := t.schedule } := by
  cases hc with
  | reset ha => exact absurd ha hr
  | noIssue | noTick | noCommand | refuse | rdstat => rfl
  | tick _ hb' | hold _ _ hb' => simp [hb] at hb'
  | raise _ _ _ _ hf' | nop _ _ _ _ hf' | rdout _ _ _ _ hf' | clrkey _ _ _ _ hf' => simp [hf] at hf'
  | ldkey _ _ _ _ _ _ hf' | start _ _ _ _ _ _ hf' | reject _ _ _ _ _ _ hf' => simp [hf] at hf'

end FaultState

/-- Settles O9: the invariant makes a fault state idle, so a word is refused or, as `0x5000`, performed. -/
theorem faultStateRefusesAllButRdstat : Obligations.FaultStateRefusesAllButRdstat := fun _ _ hi hf ht =>
  ⟨step_of_takes_refused ht (hi.fault_idle hf) hf, step_of_takes_rdstat ht⟩

/-- Settles O10: the reset step writes 0 to `FAULT` and `FCAUSE`; every other case of a step, from an idle fault state, is
one that leaves the block alone. -/
theorem faultStateIsLeftOnlyByReset : Obligations.FaultStateIsLeftOnlyByReset := by
  intro s t hi hf hs
  refine ⟨fun ha => ?_, (stepCase hs).hostSide_of_fault (hi.fault_idle hf) hf⟩
  have hreset : step s = .next (resetStep (popSchedule s)) := by rw [step, ha, move]
  cases hs.symm.trans hreset
  exact ⟨rfl, rfl⟩

/-! ### The rejection of a CRYPT (R226) -/

section Rejection

variable {td : Comp} {s : State}

/-- A CRYPT whose keys are not all loaded is rejected. -/
theorem exec_cryptOf_of_not_keysLoaded (m : SubMode) (b : Word) (hk : ¬keysLoaded td s = true) :
    exec (cryptOf m td b) s = .next (rejectKey s) := by
  rw [exec_cryptOf, cryptCommand, if_neg hk]

/-- A single CRYPT needs the valid flag of key register 0. -/
theorem not_keysLoaded_single (h0 : s.kvalid.getLsbD 0 = false) : ¬keysLoaded .single s = true := by
  rw [keysLoaded_iff, h0]
  exact fun ⟨h, _⟩ => absurd h Bool.false_ne_true

/-- A triple CRYPT needs all three valid flags. -/
theorem kvalid_eq_of_keysLoaded (htd : td ≠ .single) (hk : keysLoaded td s = true) : s.kvalid = 0b111 := by
  have hneed : keyNeed td = 0b111 := if_neg htd
  have hmask : s.kvalid &&& 0b111 = 0b111 := by simpa only [keysLoaded, hneed, beq_iff_eq] using hk
  have hall : s.kvalid &&& 0b111 = s.kvalid := BitVec.and_allOnes
  exact hall.symm.trans hmask

end Rejection

/-- Settles O23: with the needed flags not all 1, the key check fails in each of the six forms. -/
theorem cryptWithoutKeysIsRejected : Obligations.CryptWithoutKeysIsRejected := by
  intro b s
  refine ⟨fun h0 => ?single, fun hv => ?triple⟩
  case single =>
    have hk := not_keysLoaded_single h0
    exact ⟨exec_cryptOf_of_not_keysLoaded .enc b hk, exec_cryptOf_of_not_keysLoaded .dec b hk⟩
  case triple =>
    have hk {td : Comp} (htd : td ≠ .single) : ¬keysLoaded td s = true := fun h => hv (kvalid_eq_of_keysLoaded htd h)
    have heee3 (m : SubMode) := exec_cryptOf_of_not_keysLoaded m b (hk (td := .eee3) nofun)
    have hede3 (m : SubMode) := exec_cryptOf_of_not_keysLoaded m b (hk (td := .ede3) nofun)
    exact ⟨heee3 .enc, heee3 .dec, hede3 .enc, hede3 .dec⟩

end Machine

end Sys2Proof

/-! PROOFS. Reset and hazards (70_reset_and_hazards.md): what the reset step leaves in the block, and the two invariants that
every run from reset keeps. -/

namespace Sys2Proof.Machine

/-! ### The reset step (R260) -/

/-- Reset is enabled in every state, a busy one and a faulted one included. -/
theorem step_of_reset {s : State} (ha : nextAgent s = .reset) : step s = .next (resetStep (popSchedule s)) := by
  rw [step, ha, move]

/-- `STATUS` after reset is `0x0000`: each of its fields is 0. -/
@[simp] theorem statusWord_resetStep (s : State) : statusWord (resetStep s) = 0 := by
  simp [statusWord]

/-- Settles O11: the reset step's state has the table's values, field by field; every other step keeps a fault. -/
theorem resetStepRestoresTheBlock : Obligations.ResetStepRestoresTheBlock := by
  refine ⟨fun s ha => ⟨_, step_of_reset ha, by simp⟩, fun s t hs hf hf' => ?_⟩
  by_contra hr
  obtain ⟨hkept, -⟩ := (stepCase hs).fault_kept hr hf
  simp [hkept] at hf'

/-- Settles O12: `STATUS` as after any reset step, and the other registers as the reset state is defined. -/
theorem resetStateRegisters : Obligations.ResetStateRegisters :=
  ⟨rfl, rfl, rfl, statusWord_resetStep State.reset, rfl, rfl, rfl, rfl, rfl, rfl, rfl, rfl, rfl, rfl⟩

/-! ### The two invariants along a run (R263, R270) -/

section Runs

variable {s t : State}

/-- With an empty `PEND` there is nothing to say of a pending command. -/
theorem PendHeld.of_pend_none (hp : s.pend = none) : PendHeld s where
  word := by simp [hp]
  operation h := absurd hp h
  no_fault h := absurd hp h

theorem PendHeld.popSchedule (h : PendHeld s) : PendHeld (popSchedule s) := ⟨h.word, h.operation, h.no_fault⟩

/-- A tick leaves the operation running, or completes it and sets `DONE`. -/
theorem PendHeld.tick (h : PendHeld s) (hb : s.busy = true) : PendHeld (tick s) where
  word := by rw [tick_frame]; exact h.word
  operation _ := by
    rcases tick_completes_or_keeps s with ⟨-, -, -, hdone⟩ | ⟨-, hbusy, -⟩
    · exact .inr hdone
    · exact .inl (hbusy.trans hb)
  no_fault := by rw [tick_frame]; exact h.no_fault

/-- Only a held command enters `PEND`, in a busy block and so not a faulted one; a command that is performed, refused or
raises its cause leaves `PEND` empty, as reset does. -/
theorem StepCase.keeps_pendHeld (hi : Inv s) (hp : PendHeld s) (hc : StepCase s t) : PendHeld t := by
  cases hc with
  | noIssue | noTick | noCommand => exact hp.popSchedule
  | tick _ hb => exact hp.popSchedule.tick hb
  | hold tr _ hb h0 h5 =>
    exact ⟨by rintro _ ⟨⟩; exact ⟨h0, h5⟩, fun _ => .inl hb, fun _ => hi.not_fault_of_busy hb⟩
  | _ => exact .of_pend_none rfl

end Runs

/-- Settles O35: such a start is its own state after a reset step, and nothing is pending in it. -/
theorem resetMeetsTheInvariant : Obligations.ResetMeetsTheInvariant := fun program schedule p =>
  ⟨inv_resetStep { State.reset with program := program, schedule := schedule, ede3Polarity := p }, .of_pend_none rfl⟩

/-- Settles O37: by induction on the run, from a start after reset through each kind of step. -/
theorem everyReachableStateMeetsTheInvariant : Obligations.EveryReachableStateMeetsTheInvariant := by
  intro s h
  induction h with
  | start program schedule p => exact resetMeetsTheInvariant program schedule p
  | step _ hs ih =>
    obtain ⟨hi, hp⟩ := ih
    exact ⟨everyStepKeepsTheInvariant _ _ hi hs, (stepCase hs).keeps_pendHeld hi hp⟩

end Sys2Proof.Machine

/-! PROOFS. The step itself (45_commands.md R200, 70_reset_and_hazards.md R270): that it answers a next state, what it does with
the command it takes, what it does when it takes none, and who moves next; before them, the decoder's sample words. -/

namespace Sys2Proof.Machine

open Claims

/-! ### Sample words (30_encoding.md R73 to R78, R83) -/

/-- The bits of a well-formed command's transfer are read back as the command. -/
theorem decodeTableWord_of_encode {nbits w : Nat} {i : Instr} (hi : i.WellFormed = true)
    (hw : transferOfBits nbits w = encode i) : decodeTableWord nbits w = some i := by
  rw [decodeTableWord, hw, decode_encode hi]

/-- The bits of a transfer that the decoder rejects are read as no command. -/
theorem decodeTableWord_of_illegal {nbits w : Nat} {c : FaultCause} (hd : decode (transferOfBits nbits w) = .illegal c) :
    decodeTableWord nbits w = none := by
  rw [decodeTableWord, hd]

/-- The decoder's answer is behind every command read from bits. -/
theorem decode_of_decodeTableWord {nbits w : Nat} {i : Instr} (h : decodeTableWord nbits w = some i) :
    decode (transferOfBits nbits w) = .legal i := by
  unfold decodeTableWord at h
  cases hd : decode (transferOfBits nbits w) <;> rw [hd] at h <;> cases h
  rfl

/-- Settles O5: eight words are encodings of well-formed commands, and in the last two a field has its reserved value. -/
theorem sampleWordsDecode : Obligations.SampleWordsDecode :=
  ⟨decodeTableWord_of_encode rfl rfl, decodeTableWord_of_encode rfl rfl, decodeTableWord_of_encode rfl rfl,
    decodeTableWord_of_encode rfl rfl, decodeTableWord_of_encode rfl rfl, decodeTableWord_of_encode rfl rfl,
    decodeTableWord_of_encode rfl rfl, decodeTableWord_of_encode rfl rfl,
    decodeTableWord_of_illegal (decode_ldkey_three rfl rfl), decodeTableWord_of_illegal (decode_crypt_td_three rfl rfl)⟩

/-- Settles O18: the index selects no key register. -/
theorem ldkeyOfIndexThreeFaults : Obligations.LdkeyOfIndexThreeFaults := by
  intro key s
  have hk : keyIndex 3 = none := keyIndex_eq_none.mpr rfl
  simp only [exec, execLdkey, hk]
  rfl

/-! ### Every step answers a next state (logs 1, 15, 17) -/

theorem commandStep_next (tr : Transfer) (s : State) : ∃ t, commandStep tr s = .next t := by
  unfold commandStep
  cases admission tr s with
  | perform i => exact exec_next i _
  | _ => exact ⟨_, rfl⟩

theorem portMove_next (s : State) : ∃ t, portMove s = .next t := by
  unfold portMove
  cases s.pend with
  | none => exact ⟨_, rfl⟩
  | some tr => exact commandStep_next tr s

theorem hostMove_next (s : State) : ∃ t, hostMove s = .next t := by
  unfold hostMove
  cases s.pend with
  | none => exact portMove_next _
  | some tr => exact ⟨_, rfl⟩

/-- Settles O15: each agent's move answers a next state. -/
theorem everyStepGoesOn : Obligations.EveryStepGoesOn := by
  intro s
  unfold step
  cases nextAgent s with
  | host => exact hostMove_next _
  | port => exact portMove_next _
  | engine | reset => exact ⟨_, rfl⟩

@[simp] theorem tick_pend (s : State) : (tick s).pend = s.pend := by rw [tick_frame]
@[simp] theorem tick_program (s : State) : (tick s).program = s.program := by rw [tick_frame]

section Taking

variable {s t : State} {tr : Transfer}

/-! ### A step that takes a command -/

/-- A command that is neither held nor refused is performed. -/
theorem step_of_takes_legal {i : Instr} (ht : Takes tr s) (hd : decode tr = .legal i) (hh : ¬Held tr.cmd s)
    (hf : s.fault = true → tr.cmd = 0x5000) : step s = exec i (taken s) := by
  have ha : admission tr { taken s with pend := some tr } = .perform i :=
    admission_of_legal (held_eq_false_iff.mpr hh) (by simpa [refused] using hf) hd
  rw [step_of_takes ht, commandStep, ha]
  rfl

theorem held_eq_true_iff {cmd : BitVec 16} : held cmd s = true ↔ Held cmd s := by
  simp [held, and_assoc]

/-- A held command stays in `PEND`. -/
theorem step_of_takes_held (ht : Takes tr s) (hh : Held tr.cmd s) :
    step s = .next { taken s with pend := some tr } := by
  have ha : admission tr { taken s with pend := some tr } = .hold := if_pos (held_eq_true_iff.mpr hh)
  rw [step_of_takes ht, commandStep, ha]

/-- At the host's turn nothing is taken while a command is pending or when the host has none left. -/
theorem not_takes_of_no_issue (ha : nextAgent s = .host) (h : s.pend ≠ none ∨ s.program = []) (tr : Transfer) :
    ¬Takes tr s := by
  rintro (⟨ha', -⟩ | ⟨-, hp, hq⟩)
  · cases ha.symm.trans ha'
  · rcases h with h | h
    · exact h hp
    · simp [h] at hq

/-- A command taken from `PEND` leaves the host's list alone, and one that the host issued is gone from it. -/
theorem StepCase.program_of_takes (hc : StepCase s t) (ht : Takes tr s) : t.program = (taken s).program := by
  cases hc with
  | noIssue ha hp => exact absurd ht (not_takes_of_no_issue ha hp tr)
  | reset ha | tick ha | noTick ha | noCommand ha => simp [ha]
  | _ => rfl

/-- A step that takes no command is reset, a tick, or uses up its schedule entry alone. -/
theorem StepCase.cases_of_not_takes (hc : StepCase s t) (hn : ∀ tr, ¬Takes tr s) :
    (nextAgent s = .reset ∧ t = resetStep (popSchedule s)) ∨
    (nextAgent s = .engine ∧ s.busy = true ∧ t = Machine.tick (popSchedule s)) ∨ t = popSchedule s := by
  cases hc with
  | reset ha => exact .inl ⟨ha, rfl⟩
  | tick ha hb => exact .inr (.inl ⟨ha, hb, rfl⟩)
  | noIssue | noTick | noCommand => exact .inr (.inr rfl)
  | _ tr => exact absurd ‹Takes tr s› (hn tr)

/-! ### Every step -/

/-- Every step uses up one entry of the schedule. -/
theorem StepCase.schedule_eq (hc : StepCase s t) : t.schedule = s.schedule.tail := by
  cases hc with
  | tick => exact tick_schedule _
  | _ => rfl

theorem StepCase.ede3Polarity_eq (hc : StepCase s t) : t.ede3Polarity = s.ede3Polarity := by
  cases hc with
  | tick => exact tick_ede3Polarity _
  | _ => rfl

/-! ### Who moves next -/

/-- The port's step is enabled when a pending command is not held. -/
theorem portEnabled_iff : portEnabled s = true ↔ ∃ tr, s.pend = some tr ∧ ¬Held tr.cmd s := by
  unfold portEnabled
  cases s.pend with
  | none => simp
  | some tr => simp only [Bool.not_eq_true', held_eq_false_iff, Option.some.injEq, exists_eq_left']

/-- The agent that moves when the schedule has run out (log 2), with the reason for its turn. -/
theorem nextAgent_of_schedule_nil (hs : s.schedule = []) :
    (nextAgent s = .port ∧ portEnabled s = true) ∨
    (nextAgent s = .engine ∧ portEnabled s = false ∧ s.busy = true) ∨
    (nextAgent s = .host ∧ s.pend = none ∧ s.busy = false) := by
  have ha : nextAgent s = defaultAgent s := by rw [nextAgent, hs]
  rw [ha, defaultAgent]
  cases hp : portEnabled s
  case true => exact .inl ⟨rfl, rfl⟩
  case false =>
    cases hb : s.busy
    case true => exact .inr (.inl ⟨rfl, rfl, rfl⟩)
    case false =>
      refine .inr (.inr ⟨rfl, ?_, rfl⟩)
      by_contra hne
      obtain ⟨tr, htr⟩ := Option.ne_none_iff_exists'.mp hne
      have henabled : portEnabled s = true := portEnabled_iff.mpr ⟨tr, htr, fun ⟨hb', _⟩ => by simp [hb] at hb'⟩
      simp [hp] at henabled

/-- A held command is not taken once the schedule has run out: the engine comes first. -/
theorem schedule_ne_nil_of_held (ht : Takes tr s) (hh : Held tr.cmd s) : s.schedule ≠ [] := by
  intro hs
  have hb : s.busy = true := hh.1
  rcases nextAgent_of_schedule_nil hs with ⟨ha, he⟩ | ⟨ha, -⟩ | ⟨-, -, hb'⟩
  · obtain ⟨tr', hp', hh'⟩ := portEnabled_iff.mp he
    exact hh' (ht.unique (.inl ⟨ha, hp'⟩) ▸ hh)
  · simp [Takes, ha] at ht
  · simp [hb] at hb'

/-- A schedule without a reset makes no reset, and neither does the order after it. -/
theorem nextAgent_ne_reset (hs : .reset ∉ s.schedule) : nextAgent s ≠ .reset := by
  cases hl : s.schedule with
  | nil => rcases nextAgent_of_schedule_nil hl with ⟨ha, -⟩ | ⟨ha, -⟩ | ⟨ha, -⟩ <;> simp [ha]
  | cons a rest =>
    have ha : nextAgent s = a := by rw [nextAgent, hl]
    rw [ha]
    rintro rfl
    simp [hl] at hs

/-- A step leaves no reset in a schedule that had none. -/
theorem StepCase.no_reset (hc : StepCase s t) (hs : .reset ∉ s.schedule) : .reset ∉ t.schedule := by
  rw [hc.schedule_eq]
  exact fun h => hs (List.mem_of_mem_tail h)

end Taking

/-- Settles O6: the command is taken and performed; the next agent is read off the schedule, or off the default order when
it has run out. -/
theorem stepRunsDecodedInstruction : Obligations.StepRunsDecodedInstruction := by
  intro s t i hd hh hf
  refine ⟨fun ht => step_of_takes_legal ht hd hh hf, fun rest h => ?_⟩
  rcases h with ⟨hp, hs | hs⟩ | ⟨hp, hq, hs | ⟨hs, hb⟩⟩
  · exact .inl ⟨by rw [nextAgent, hs], hp⟩
  · have he : portEnabled s = true := portEnabled_iff.mpr ⟨t, hp, hh⟩
    exact .inl ⟨by rw [nextAgent, hs, defaultAgent, if_pos he], hp⟩
  · exact .inr ⟨by rw [nextAgent, hs], hp, hq⟩
  · have he : portEnabled s = false := by rw [portEnabled, hp]
    exact .inr ⟨by simp [nextAgent, hs, defaultAgent, he, hb], hp, hq⟩

/-- Settles O7: the host's entry comes first and issues the placed transfer, which an idle block without a fault performs. -/
theorem fetchedWordRunsNext : Obligations.FetchedWordRunsNext := by
  intro s nbits w i hi hb hf
  have ht : Takes (transferOfBits nbits w) (s.withFetchWord nbits w) := .inr ⟨rfl, rfl, rfl⟩
  have hidle : ¬Held (transferOfBits nbits w).cmd (s.withFetchWord nbits w) :=
    fun ⟨hb', _⟩ => Bool.false_ne_true (hb.symm.trans hb')
  exact step_of_takes_legal ht (decode_of_decodeTableWord hi) hidle
    fun hf' => absurd (hf.symm.trans hf') Bool.false_ne_true

/-- Settles O8: the port or the host takes the command, which is held; an enabled port would need one that is not. -/
theorem heldCommandHasNoStep : Obligations.HeldCommandHasNoStep := by
  intro s t hh
  refine ⟨fun hp ha => ?port, fun hp hs => ?order, fun rest hp hq ha => ?host⟩
  case port => rw [step_of_takes_held (.inl ⟨ha, hp⟩) hh, taken, ← hp, if_neg (by simp [ha])]
  case order =>
    rcases nextAgent_of_schedule_nil hs with ⟨ha, -⟩ | ⟨ha, -⟩ | ⟨-, hp', -⟩
    · exact absurd hs (schedule_ne_nil_of_held (.inl ⟨ha, hp⟩) hh)
    · exact ha
    · cases hp.symm.trans hp'
  case host => rw [step_of_takes_held (.inr ⟨ha, hp, by rw [hq]; rfl⟩) hh, taken, if_pos ha, hq]; rfl

/-- Settles O13: an issued command is held or answered in the same step; without one the host's move is idle. -/
theorem hostIssuesOnlyWhenNothingPends : Obligations.HostIssuesOnlyWhenNothingPends := by
  intro s ha
  obtain ⟨u, hs⟩ := everyStepGoesOn s
  have hc := stepCase hs
  refine ⟨fun t rest hp hq => ?issue, fun h => ?idle⟩
  case issue =>
    have ht : Takes t s := .inr ⟨ha, hp, by rw [hq]; rfl⟩
    have hprogram : u.program = rest := by rw [hc.program_of_takes ht, taken_program, if_pos ha, hq]; rfl
    refine ⟨u, hs, hprogram, hc.schedule_eq, fun hh => ?_, fun hh => ?_⟩
    · cases hs.symm.trans (step_of_takes_held ht hh)
      exact ⟨rfl, rfl⟩
    · obtain ⟨hpend, r, hr, -⟩ := (oneResponseForEachCommandTaken s u hs).1 t ht hh
      exact ⟨hpend, r, hr⟩
  case idle =>
    rcases hc.cases_of_not_takes (not_takes_of_no_issue ha h) with ⟨ha', -⟩ | ⟨ha', -⟩ | rfl
    · cases ha.symm.trans ha'
    · cases ha.symm.trans ha'
    · exact hs

/-- Settles O34: no operation of a step writes the parameter. -/
theorem polarityNeverChanges : Obligations.PolarityNeverChanges := fun _ _ hs => (stepCase hs).ede3Polarity_eq

/-- Settles O60: every kind of step keeps the invariant of `PEND`. -/
theorem pendHoldsOnlyHeldCommands : Obligations.PendHoldsOnlyHeldCommands :=
  fun _ _ hi hp hs => (stepCase hs).keeps_pendHeld hi hp

end Sys2Proof.Machine

/-! PROOFS. The engine under every schedule without a reset (44_triple_sequencer.md R186, R193): the tick of one round, and the
completion of an operation within the steps that the schedule, one command and the ticks can take. -/

namespace Sys2Proof.Machine

open Claims

/-- Any round but the last: the tick is that round. -/
theorem tick_of_next_round {s : State} (hr : s.rnd.val < 15) : tick s = { tickRound s with rnd := s.rnd + 1 } := by
  rcases tick_cases s with ⟨-, e⟩ | ⟨hr', -⟩ | ⟨hr', -⟩
  · exact e
  · omega
  · omega

/-- The engine has no tick while no operation runs. -/
theorem step_of_idle_engine {s : State} (ha : nextAgent s = .engine) (hb : s.busy = false) :
    step s = .next (popSchedule s) := by
  rw [step, ha, move, engineMove, popSchedule_busy, hb, if_neg Bool.false_ne_true]

/-- Settles O27: the round is the rule's, and an idle engine's entry is used up. -/
theorem tickPerformsOneRound : Obligations.TickPerformsOneRound := by
  intro s ha
  refine ⟨fun hb hr => ?_, fun hb => step_of_idle_engine ha hb⟩
  rw [← tickRound_eq_ticked, step_eq_tick ha hb, tick_of_next_round (s := popSchedule s) hr]
  rfl

/-! ### An operation under a schedule without a reset (R193) -/

/-- The steps an operation in progress can still wait for: the schedule's entries, a pending command that is not held, and the
ticks. -/
def stepsToCompletion (s : State) : Nat := s.schedule.length + (portEnabled s).toNat + ticksLeft s

section Completion

variable {m : SubMode} {td : Comp} {b : Word} {s t : State}

/-- While an operation runs no step makes the port's step enabled: a command that comes to `PEND` is held. -/
theorem StepCase.portEnabled_of_busy (hc : StepCase s t) (hb : s.busy = true) (hb' : t.busy = true)
    (he : portEnabled t = true) : portEnabled s = true ∧ nextAgent s ≠ .port := by
  obtain ⟨tr, hp, hh⟩ := portEnabled_iff.mp he
  have kept (hp' : s.pend = some tr) : portEnabled s = true :=
    portEnabled_iff.mpr ⟨tr, hp', fun ⟨_, hw⟩ => hh ⟨hb', hw⟩⟩
  cases hc with
  | noIssue ha | noTick ha => exact ⟨kept hp, by simp [ha]⟩
  | tick ha => exact ⟨kept (by simpa using hp), by simp [ha]⟩
  | noCommand _ hp' => cases hp'.symm.trans hp
  | hold tr' _ _ h0 h5 =>
    cases hp
    exact absurd ⟨hb, h0, h5⟩ hh
  | _ => cases hp

/-- Every step keeps the operation in progress and brings its end nearer, or is the last tick. -/
theorem Running.completes_or_nearer (h : Running m td b s) (hnr : .reset ∉ s.schedule) (hs : step s = .next t) :
    (Running m td b t ∧ t.key = s.key ∧ stepsToCompletion t < stepsToCompletion s) ∨
    (t.busy = false ∧ t.done = true ∧ t.dout = run s.ede3Polarity s.key b m td) := by
  have hc := stepCase hs
  rcases runningOperationStepsTowardsRun m td b s t h hs (nextAgent_ne_reset hnr) with
    ⟨ht, hkey, -, -, -, -, hticks⟩ | ⟨-, -, hidle, hdone, -, hdout⟩
  case inr => exact .inr ⟨hidle, hdone, hdout⟩
  have hport := hc.portEnabled_of_busy h.busy ht.busy
  have hle : (portEnabled t).toNat ≤ (portEnabled s).toNat := by
    cases he : portEnabled t
    · exact Nat.zero_le _
    · rw [(hport he).1]
  refine .inl ⟨ht, hkey, ?_⟩
  unfold stepsToCompletion
  rw [hc.schedule_eq, List.length_tail]
  cases hl : s.schedule with
  | cons a rest =>
    rw [List.length_cons]
    omega
  | nil =>
    rcases nextAgent_of_schedule_nil hl with ⟨ha, he⟩ | ⟨ha, -⟩ | ⟨-, -, hb⟩
    · have he' : portEnabled t = false := by
        by_contra he'
        exact (hport (Bool.eq_true_of_not_eq_false he')).2 ha
      simp [he, he', hticks, ha]
    · rw [hticks, if_pos ha]
      simp only [List.length_nil]
      omega
    · simp [h.busy] at hb

/-- An operation in progress completes within the steps it can wait for. -/
theorem Running.completes {k : Nat} (h : Running m td b s) (hnr : .reset ∉ s.schedule) (hk : stepsToCompletion s ≤ k) :
    ∃ n t, n ≤ k ∧ core.run n s = .next t ∧ t.busy = false ∧ t.done = true ∧
      t.dout = run s.ede3Polarity s.key b m td := by
  induction k generalizing s with
  | zero =>
    have := h.ticksLeft_pos
    unfold stepsToCompletion at hk
    omega
  | succ k ih =>
    obtain ⟨u, hs⟩ := everyStepGoesOn s
    have hrun (n : Nat) : core.run (n + 1) s = core.run n u := coreRun_succ (M := core) hs n
    rcases h.completes_or_nearer hnr hs with ⟨hu, hkey, hlt⟩ | hend
    · obtain ⟨n, t, hn, ht, hidle, hdone, hdout⟩ := ih hu ((stepCase hs).no_reset hnr) (by omega)
      rw [polarityNeverChanges s u hs, hkey] at hdout
      exact ⟨n + 1, t, by omega, (hrun n).trans ht, hidle, hdone, hdout⟩
    · exact ⟨1, u, by omega, hrun 0, hend⟩

end Completion

/-- Settles O41: at most one pending command is not held, so the bound covers the steps that the operation can wait for. -/
theorem runningOperationCompletes : Obligations.RunningOperationCompletes := by
  intro m td b s h hnr
  refine h.completes hnr ?_
  have := Bool.toNat_le (portEnabled s)
  unfold stepsToCompletion
  omega

end Sys2Proof.Machine

/-! PROOFS. The end of a run (70_reset_and_hazards.md R273): looking for it step by step finds the first state where the three
conditions hold, and without a reset every run comes to one. -/

namespace Sys2Proof.Machine

open Claims

/-! ### The first end -/

/-- `n` steps lead from `s` to `e`, where the run from `start` has ended, as at no state before. -/
def FirstEndAfter (start : State) (n : Nat) (s e : State) : Prop :=
  core.run n s = .next e ∧ Ended start e ∧ ∀ m, m < n → ∃ t, core.run m s = .next t ∧ ¬Ended start t

section FirstEnd

variable {start s t e e' : State} {n n' : Nat}

/-- The model's test for the end of a run is R273's conditions. -/
theorem endOfRun_iff_ended : endOfRun start s = true ↔ Ended start s := endOfRun_iff start s

theorem endOfRun_eq_false_iff : endOfRun start s = false ↔ ¬Ended start s := by
  rw [← endOfRun_iff_ended, Bool.not_eq_true]

/-- A state where the run has ended is its own first end. -/
theorem firstEndAfter_zero (h : Ended start s) : FirstEndAfter start 0 s s :=
  ⟨rfl, h, fun _ hm => absurd hm (Nat.not_lt_zero _)⟩

/-- A state before the first end is not ended. -/
theorem FirstEndAfter.not_ended (h : FirstEndAfter start (n + 1) s e) : ¬Ended start s := by
  obtain ⟨-, -, hbefore⟩ := h
  obtain ⟨t, hrun, ht⟩ := hbefore 0 n.succ_pos
  cases hrun
  exact ht

/-- One step on from a state that is not ended, the first end is one step nearer. -/
theorem firstEndAfter_succ_iff (hn : ¬Ended start s) (hs : step s = .next t) :
    FirstEndAfter start (n + 1) s e ↔ FirstEndAfter start n t e := by
  have hrun (m : Nat) : core.run (m + 1) s = core.run m t := coreRun_succ (M := core) hs m
  unfold FirstEndAfter
  rw [hrun]
  refine and_congr_right fun _ => and_congr_right fun _ => ⟨fun h m hm => ?_, fun h m hm => ?_⟩
  · rw [← hrun]
    exact h (m + 1) (by omega)
  · cases m with
    | zero => exact ⟨s, rfl, hn⟩
    | succ m =>
      rw [hrun]
      exact h m (by omega)

/-- What the search finds is a first end. -/
theorem firstEndAfter_of_firstEnd {fuel : Nat} (h : firstEnd start fuel s = some e) :
    ∃ n, FirstEndAfter start n s e := by
  induction fuel generalizing s with
  | zero =>
    by_cases hend : Ended start s
    · rw [firstEnd_of_end (endOfRun_iff_ended.mpr hend)] at h
      cases h
      exact ⟨0, firstEndAfter_zero hend⟩
    · rw [firstEnd, endOfRun_eq_false_iff.mpr hend] at h
      cases h
  | succ fuel ih =>
    by_cases hend : Ended start s
    · rw [firstEnd_of_end (endOfRun_iff_ended.mpr hend)] at h
      cases h
      exact ⟨0, firstEndAfter_zero hend⟩
    · obtain ⟨t, hs⟩ := everyStepGoesOn s
      rw [firstEnd_of_step (endOfRun_eq_false_iff.mpr hend) hs] at h
      obtain ⟨n, hn⟩ := ih h
      exact ⟨n + 1, (firstEndAfter_succ_iff hend hs).mpr hn⟩

/-- The search finds a first end when it looks as far. -/
theorem FirstEndAfter.firstEnd (h : FirstEndAfter start n s e) : firstEnd start n s = some e := by
  induction n generalizing s with
  | zero =>
    obtain ⟨hrun, hend, -⟩ := h
    cases hrun
    exact firstEnd_of_end (endOfRun_iff_ended.mpr hend) 0
  | succ n ih =>
    obtain ⟨t, hs⟩ := everyStepGoesOn s
    rw [firstEnd_of_step (endOfRun_eq_false_iff.mpr h.not_ended) hs]
    exact ih ((firstEndAfter_succ_iff h.not_ended hs).mp h)

theorem endsIn_iff_firstEndAfter : EndsIn start e ↔ ∃ n, FirstEndAfter start n start e :=
  ⟨fun ⟨_, h⟩ => firstEndAfter_of_firstEnd h, fun ⟨n, h⟩ => ⟨n, h.firstEnd⟩⟩

/-- No first end comes after another. -/
theorem FirstEndAfter.le (h : FirstEndAfter start n s e) (h' : FirstEndAfter start n' s e') : n' ≤ n := by
  by_contra hlt
  obtain ⟨hrun, hend, -⟩ := h
  obtain ⟨-, -, hbefore⟩ := h'
  obtain ⟨t, hrun', hn⟩ := hbefore n (by omega)
  cases hrun.symm.trans hrun'
  exact hn hend

theorem EndsIn.unique (h : EndsIn start e) (h' : EndsIn start e') : e = e' := by
  obtain ⟨n, hn⟩ := endsIn_iff_firstEndAfter.mp h
  obtain ⟨n', hn'⟩ := endsIn_iff_firstEndAfter.mp h'
  obtain rfl : n = n' := (hn'.le hn).antisymm (hn.le hn')
  obtain ⟨hrun, -⟩ := hn
  obtain ⟨hrun', -⟩ := hn'
  cases hrun.symm.trans hrun'
  rfl

end FirstEnd

/-- Settles O58: the search stops at the first end, of which a run has at most one. -/
theorem runEndsAtTheFirstEnd : Obligations.RunEndsAtTheFirstEnd := by
  refine ⟨fun _ _ => endsIn_iff_firstEndAfter, fun _ _ _ h h' => h.unique h', ?_⟩
  rintro start e e' h hf ⟨h', hf'⟩
  rw [h.unique h', hf'] at hf
  exact Bool.false_ne_true hf

/-! ### Runs without a reset -/

/-- The steps that the commands still to be taken can cost: 50 for one to issue, and one less once it is pending. -/
def commandSteps (s : State) : Nat := 50 * s.program.length + 49 * s.pend.toList.length

/-- The ticks of the operation in progress, if there is one. -/
def tickSteps (s : State) : Nat := if s.busy then ticksLeft s else 0

/-- The steps that a run without a reset can still take to its end. -/
def stepsToEnd (s : State) : Nat := s.schedule.length + commandSteps s + tickSteps s

/-- What holds at every state `s` of a run from `start` without a reset. -/
structure OnTheWay (start s : State) : Prop where
  no_reset : .reset ∉ s.schedule
  /-- A busy block has an operation in progress. -/
  running : s.busy = true → ∃ m td b, Running m td b s
  /-- Every command of the run is answered or still to be taken. -/
  count : s.responses.length + commandCount s = start.responses.length + commandCount start
  /-- The responses of the run follow those before it. -/
  earlier : ∃ rs, s.responses = start.responses ++ rs

section RunWithoutReset

variable {start s t : State} {tr : Transfer}

/-- A taken command was one of those counted. -/
theorem Takes.commandCount_eq (ht : Takes tr s) : commandCount s = (taken s).program.length + 1 := by
  rcases ht with ⟨ha, hp⟩ | ⟨ha, hp, hq⟩
  · simp [commandCount, ha, hp]
  · obtain ⟨rest, hq⟩ := List.head?_eq_some_iff.mp hq
    simp [commandCount, ha, hp, hq]

/-- A taken command still had its 49 steps, for a held command step and the ticks. -/
theorem Takes.commandSteps_ge (ht : Takes tr s) : 50 * (taken s).program.length + 49 ≤ commandSteps s := by
  rcases ht with ⟨ha, hp⟩ | ⟨ha, hp, hq⟩
  · simp [commandSteps, ha, hp]
  · obtain ⟨rest, hq⟩ := List.head?_eq_some_iff.mp hq
    simp [commandSteps, ha, hp, hq]
    omega

/-- What a step but reset does to the commands and their responses. -/
theorem StepCase.command_cases (hs : step s = .next t) (hr : nextAgent s ≠ .reset) :
    (∃ tr, Takes tr s ∧ t.pend = none ∧ t.program = (taken s).program ∧ ∃ r, t.responses = s.responses ++ [r]) ∨
    (∃ tr, Takes tr s ∧ Held tr.cmd s ∧ t = { taken s with pend := some tr }) ∨
    ((∀ tr, ¬Takes tr s) ∧ t.pend = s.pend ∧ t.program = s.program ∧ t.responses = s.responses) := by
  have hc := stepCase hs
  rcases hc.response_cases with ⟨tr, ht, -, hp, r, hresp, -⟩ | ⟨tr, ht, hh, -⟩ | ⟨hn, hresp⟩
  · exact .inl ⟨tr, ht, hp, hc.program_of_takes ht, r, hresp⟩
  · cases hs.symm.trans (step_of_takes_held ht hh)
    exact .inr (.inl ⟨tr, ht, hh, rfl⟩)
  · refine .inr (.inr ⟨hn, ?_⟩)
    rcases hc.cases_of_not_takes hn with ⟨ha, -⟩ | ⟨-, -, rfl⟩ | rfl
    · exact absurd ha hr
    · simp
    · exact ⟨rfl, rfl, rfl⟩

/-- A step of a busy block keeps its operation or ends it, and a tick takes one tick off. -/
theorem Running.step_tickSteps {m : SubMode} {td : Comp} {b : Word} (h : Running m td b s) (hs : step s = .next t)
    (hr : nextAgent s ≠ .reset) :
    (t.busy = true → Running m td b t) ∧ tickSteps s = tickSteps t + if nextAgent s = .engine then 1 else 0 := by
  have hticks : tickSteps s = ticksLeft s := if_pos h.busy
  rw [hticks]
  rcases runningOperationStepsTowardsRun m td b s t h hs hr with ⟨ht, -, -, -, -, -, hleft⟩ | ⟨ha, hone, hidle, -⟩
  · exact ⟨fun _ => ht, by rw [hleft, tickSteps, if_pos ht.busy]⟩
  · exact ⟨fun hb => by simp [hidle] at hb, by simp [hone, tickSteps, hidle, ha]⟩

/-- A step of an idle block leaves it idle, or takes a CRYPT that starts its operation of at most 48 ticks. -/
theorem StepCase.idle_or_starts (hc : StepCase s t) (hb : s.busy = false) :
    t.busy = false ∨ ∃ m td b, Running m td b t ∧ ticksLeft t ≤ 48 := by
  cases hc with
  | start tr m td b _ _ hf _ hk =>
    obtain ⟨u, hu, hrun, -, hleft⟩ := acceptedCryptIsRunning m td b (taken s) hf hk
    cases hu.symm.trans (exec_cryptOf_of_keysLoaded m b hk)
    refine .inr ⟨m, td, b, hrun, ?_⟩
    rw [hleft]
    split <;> omega
  | tick _ hb' | hold _ _ hb' => simp [hb] at hb'
  | reset => exact .inl rfl
  | _ => exact .inl hb

/-- A step keeps what is said of the operation in progress, and adds no ticks but those of an operation it starts. -/
theorem OnTheWay.step_running (h : OnTheWay start s) (hs : step s = .next t) :
    (t.busy = true → ∃ m td b, Running m td b t) ∧ tickSteps t ≤ tickSteps s + 48 := by
  cases hb : s.busy with
  | true =>
    obtain ⟨m, td, b, hrun⟩ := h.running hb
    obtain ⟨ht, hticks⟩ := hrun.step_tickSteps hs (nextAgent_ne_reset h.no_reset)
    exact ⟨fun hb' => ⟨m, td, b, ht hb'⟩, by omega⟩
  | false =>
    rcases (stepCase hs).idle_or_starts hb with hidle | ⟨m, td, b, hrun, hleft⟩
    · exact ⟨fun hb' => by simp [hidle] at hb', by simp [tickSteps, hidle]⟩
    · exact ⟨fun _ => ⟨m, td, b, hrun⟩, by rw [tickSteps, if_pos hrun.busy]; omega⟩

/-- A step that takes no command starts no operation. -/
theorem OnTheWay.tickSteps_of_not_takes (h : OnTheWay start s) (hs : step s = .next t) (hn : ∀ tr, ¬Takes tr s) :
    tickSteps t ≤ tickSteps s := by
  cases hb : s.busy with
  | true =>
    obtain ⟨m, td, b, hrun⟩ := h.running hb
    have := (hrun.step_tickSteps hs (nextAgent_ne_reset h.no_reset)).2
    omega
  | false =>
    cases hb' : t.busy with
    | true =>
      obtain ⟨tr, -, -, -, ht, -⟩ := (stepCase hs).busy_set hb hb'
      exact absurd ht (hn tr)
    | false => simp [tickSteps, hb']

/-- Where nothing pends, no command is left and no operation runs, the run has ended. -/
theorem OnTheWay.ended (h : OnTheWay start s) (hp : s.pend = none) (hq : s.program = []) (hb : s.busy = false) :
    Ended start s := by
  have hcount : commandCount s = 0 := by simp [commandCount, hp, hq]
  have hlength := h.count
  rw [hcount, Nat.add_zero] at hlength
  exact ⟨hlength, hp, hb⟩

/-- A step that takes no command, before the end, uses up an entry of the schedule or is a tick. -/
theorem OnTheWay.schedule_or_tick (h : OnTheWay start s) (hne : ¬Ended start s) (hn : ∀ tr, ¬Takes tr s) :
    s.schedule ≠ [] ∨ (nextAgent s = .engine ∧ s.busy = true) := by
  refine or_iff_not_imp_left.mpr fun hs => ?_
  rcases nextAgent_of_schedule_nil (not_not.mp hs) with ⟨ha, he⟩ | ⟨ha, -, hb⟩ | ⟨ha, hp, hb⟩
  · obtain ⟨tr, hp, -⟩ := portEnabled_iff.mp he
    exact absurd (.inl ⟨ha, hp⟩) (hn tr)
  · exact ⟨ha, hb⟩
  · cases hq : s.program with
    | nil => exact absurd (h.ended hp hq hb) hne
    | cons tr rest => exact absurd (.inr ⟨ha, hp, by rw [hq]; rfl⟩) (hn tr)

/-- A step before the end brings it nearer. -/
theorem OnTheWay.nearer (h : OnTheWay start s) (hne : ¬Ended start s) (hs : step s = .next t) :
    stepsToEnd t < stepsToEnd s := by
  have hr := nextAgent_ne_reset h.no_reset
  have hschedule : t.schedule.length = s.schedule.length - 1 := by rw [(stepCase hs).schedule_eq, List.length_tail]
  unfold stepsToEnd
  rcases StepCase.command_cases hs hr with ⟨tr, ht, hp, hq, -⟩ | ⟨tr, ht, hh, rfl⟩ | ⟨hn, hp, hq, -⟩
  case inl =>
    have hcost := ht.commandSteps_ge
    have hticks := (h.step_running hs).2
    have hleft : commandSteps t = 50 * (taken s).program.length := by simp [commandSteps, hp, hq]
    omega
  case inr.inl =>
    have hcost := ht.commandSteps_ge
    have hpos := List.length_pos_of_ne_nil (schedule_ne_nil_of_held ht hh)
    have hticks : tickSteps { taken s with pend := some tr } = tickSteps s := rfl
    have hleft : commandSteps { taken s with pend := some tr } = 50 * (taken s).program.length + 49 := rfl
    omega
  case inr.inr =>
    have hticks := h.tickSteps_of_not_takes hs hn
    have hleft : commandSteps t = commandSteps s := by rw [commandSteps, hp, hq, commandSteps]
    rcases h.schedule_or_tick hne hn with hne' | ⟨ha, hb⟩
    · have hpos := List.length_pos_of_ne_nil hne'
      omega
    · obtain ⟨m, td, b, hrun⟩ := h.running hb
      have htick := (hrun.step_tickSteps hs hr).2
      rw [if_pos ha] at htick
      omega

/-- Every step without a reset stays on the way. -/
theorem OnTheWay.step (h : OnTheWay start s) (hs : step s = .next t) : OnTheWay start t := by
  have hno_reset := (stepCase hs).no_reset h.no_reset
  have hrunning := (h.step_running hs).1
  have hcount := h.count
  obtain ⟨rs, hrs⟩ := h.earlier
  rcases StepCase.command_cases hs (nextAgent_ne_reset h.no_reset) with
    ⟨tr, ht, hp, hq, r, hresp⟩ | ⟨tr, ht, -, rfl⟩ | ⟨-, hp, hq, hresp⟩
  case inl =>
    refine ⟨hno_reset, hrunning, ?_, rs ++ [r], by rw [hresp, hrs, List.append_assoc]⟩
    have hleft : commandCount t = (taken s).program.length := by simp [commandCount, hp, hq]
    rw [ht.commandCount_eq] at hcount
    rw [hresp, List.length_append, List.length_singleton]
    omega
  case inr.inl =>
    refine ⟨hno_reset, hrunning, ?_, rs, hrs⟩
    rw [ht.commandCount_eq] at hcount
    exact hcount
  case inr.inr =>
    have hleft : commandCount t = commandCount s := by rw [commandCount, hp, hq, commandCount]
    exact ⟨hno_reset, hrunning, by rw [hresp, hleft, hcount], rs, hresp.trans hrs⟩

/-- The search finds the end within the steps that the run can still take. -/
theorem OnTheWay.firstEnd_found {fuel : Nat} (h : OnTheWay start s) (hf : stepsToEnd s ≤ fuel) :
    ∃ e, firstEnd start fuel s = some e ∧ OnTheWay start e ∧ Ended start e := by
  induction fuel generalizing s with
  | zero =>
    by_cases hend : Ended start s
    · exact ⟨s, firstEnd_of_end (endOfRun_iff_ended.mpr hend) 0, h, hend⟩
    · obtain ⟨t, hs⟩ := everyStepGoesOn s
      exact absurd (h.nearer hend hs) (by omega)
  | succ fuel ih =>
    by_cases hend : Ended start s
    · exact ⟨s, firstEnd_of_end (endOfRun_iff_ended.mpr hend) _, h, hend⟩
    · obtain ⟨t, hs⟩ := everyStepGoesOn s
      have hlt := h.nearer hend hs
      rw [firstEnd_of_step (endOfRun_eq_false_iff.mpr hend) hs]
      exact ih (h.step hs) (by omega)

end RunWithoutReset

/-- Settles O59: the run comes to an end within its bound; there the responses have come for all commands, so none is left. -/
theorem everyRunWithoutResetEnds : Obligations.EveryRunWithoutResetEnds := by
  intro start hb hp hnr
  have hstart : OnTheWay start start := ⟨hnr, fun hb' => by simp [hb] at hb', rfl, [], (List.append_nil _).symm⟩
  have hsteps : stepsToEnd start = start.schedule.length + 50 * start.program.length := by
    simp [stepsToEnd, commandSteps, tickSteps, hp, hb]
  obtain ⟨e, hfound, he, hlength, hpend, hidle⟩ := hstart.firstEnd_found hsteps.le
  obtain ⟨rs, hrs⟩ := he.earlier
  have hresponses : runResponses start e = rs := by rw [runResponses, hrs, List.drop_left]
  have hcount : e.responses.length + commandCount e = start.responses.length + commandCount start := he.count
  have hprogram : e.program = [] := by
    have hnone : commandCount e = 0 := by
      change _ = start.responses.length + commandCount start at hlength
      omega
    rw [commandCount, hpend] at hnone
    exact List.eq_nil_of_length_eq_zero hnone
  refine ⟨e, hfound, hpend, hidle, hprogram, by rw [hresponses, hrs], ?_⟩
  rw [hrs, List.length_append, hp] at hlength
  rw [hresponses]
  exact Nat.add_left_cancel hlength

end Sys2Proof.Machine
